-- ==== Sys2Proof/Word.lean ====
section
/-!
DEFINITION. The word types of AV3A-HDC: a byte of the stream and the 72-bit header window (R5, R60).
-/

namespace Sys2Proof

/-- A byte of the host's byte source. -/
abbrev Byte := BitVec 8

/-- The header window as the value of port `win[71:0]`: byte 0 is bits 71..64, byte 8 is bits 7..0 (R5). -/
abbrev Window := BitVec 72

/-- The number of bytes of a window (R2, `WINDOW_BYTES`; R41). -/
abbrev windowBytes : Nat := 9

/-- The number of stream positions of a window (R5). -/
abbrev windowBits : Nat := 72

end Sys2Proof
end

