-- ==== Sys2Proof/Config.lean ====
section
/-!
DEFINITION. What an implementation of AV3A-HDC fixes: the constants of R2, the ROMs and the neural-network bounds
as parameters with the constraints of R101 and D10, the default contents of R111 to R114, and the free value that a
register without a value shows (U3).
-/

namespace Sys2Proof.Config

/-- `SYNC`, the 12-bit sync word (R2). -/
def syncWord : BitVec 12 := 0xFFF#12

/-- `CODEC_LOSSY`, the one accepted codec id (R2). -/
def codecLossy : BitVec 4 := 2#4

/-- `FRAME_SAMPLES`, the samples of one frame (R2). -/
def frameSamples : Nat := 1024

/-- `SPECIAL_RATE`, the rate with the floor-first rounding (R2, R175). -/
def specialRate : Nat := 44100

/-- The bitrate operand of FRAMELEN and of the frame length is below this bound (R176, R190, D16). -/
def bitrateLimit : Nat := 2 ^ 54

/-- The size of the header in the stream, in bytes (R66, R200). -/
def headerBytes : Nat := 9

/-- An entry of `RES_ROM` (R31): the resolution in bits and the opaque sample-format tag. -/
structure ResEntry where
  bits : BitVec 8
  fmt  : BitVec 8
  deriving DecidableEq, Repr

/-- The four constant ROMs (R31, R43). -/
structure Rom where
  /-- `SR_ROM`: sampling rates in hertz. -/
  sr     : Vector (BitVec 32) 9
  /-- `CC_ROM`: channel counts; the position lists are not held (R109). -/
  cc     : Vector (BitVec 8) 15
  /-- `LADDER_ROM`: bitrates in bits per second. -/
  ladder : Vector (Vector (BitVec 32) 16) 15
  /-- `RES_ROM`. -/
  res    : Vector ResEntry 3
  deriving DecidableEq, Repr

/-- R101 (a): every rate is non-zero, the first is 192000 and the last 8000. -/
def Rom.srWf (r : Rom) : Bool :=
  r.sr.toList.all (· != 0#32) && r.sr[0] == 192000#32 && r.sr[8] == 8000#32

/-- R101 (b): the selectable indices 0..3 and 6..13 have at least one channel and the ambisonic slots have 4, 9, 16. -/
def Rom.ccWf (r : Rom) : Bool :=
  (r.cc.toList.take 4).all (· != 0#8) && ((r.cc.toList.drop 6).take 8).all (· != 0#8)
    && r.cc[11] == 4#8 && r.cc[12] == 9#8 && r.cc[13] == 16#8

/-- R101 (c), for one ladder: after the first zero entry every entry is zero. -/
def liveFirst : List (BitVec 32) → Bool
  | [] => true
  | e :: es => if e == 0#32 then es.all (· == 0#32) else liveFirst es

/-- R101 (c): in each ladder the live entries come first. -/
def Rom.ladderWf (r : Rom) : Bool :=
  r.ladder.toList.all fun l => liveFirst l.toList

/-- R101 (d): the resolutions are 8, 16 and 24 bits, in that order. -/
def Rom.resWf (r : Rom) : Bool :=
  r.res.toList.map ResEntry.bits == [8#8, 16#8, 24#8]

/-- R101: the constraints every ROM instantiation meets. The numeric bounds of R101 are the widths of the entries. -/
def Rom.wf (r : Rom) : Bool :=
  r.srWf && r.ccWf && r.ladderWf && r.resWf

/-- The parameters of the step relation (R3, R11): the ROMs and the accepted neural-network range, together with the
constraints a model may assume of them. A ROM that breaks R101 is not a configuration of this hardware (U10), so it
cannot be written down here. -/
structure Params where
  rom   : Rom
  /-- `NN_MIN` (D10). -/
  nnMin : BitVec 3
  /-- `NN_MAX` (D10). -/
  nnMax : BitVec 3
  /-- R101 and `NN_MIN <= NN_MAX` (D10). -/
  wf    : (rom.wf && nnMin.ule nnMax) = true
  deriving DecidableEq, Repr

/-! ## The default contents (R111 to R114), from general knowledge and not from the source: log 1 -/

/-- R111. PRESUMED by the spec but for its two ends. -/
def defaultSr : Vector (BitVec 32) 9 :=
  #v[192000, 96000, 48000, 44100, 32000, 24000, 22050, 16000, 8000]

/-- R112. PRESUMED by the spec but for entries 11 to 13. -/
def defaultCc : Vector (BitVec 8) 15 :=
  #v[1, 2, 6, 8, 12, 24, 4, 8, 10, 10, 12, 4, 9, 16, 0]

/-- R113, ladders 0 to 3. PRESUMED by the spec. -/
def ladderMono : Vector (BitVec 32) 16 :=
  #v[16000, 32000, 44000, 56000, 64000, 72000, 80000, 96000, 128000, 144000, 164000, 192000, 0, 0, 0, 0]

def ladderStereo : Vector (BitVec 32) 16 :=
  #v[24000, 32000, 48000, 64000, 80000, 96000, 128000, 144000, 192000, 256000, 320000, 0, 0, 0, 0, 0]

def ladder51 : Vector (BitVec 32) 16 :=
  #v[192000, 256000, 320000, 384000, 448000, 512000, 640000, 720000, 144000, 96000, 128000, 160000, 0, 0, 0, 0]

def ladder71 : Vector (BitVec 32) 16 :=
  #v[192000, 480000, 256000, 384000, 576000, 640000, 128000, 160000, 0, 0, 0, 0, 0, 0, 0, 0]

/-- R113: the ladder of the reserved and unknown entries 4, 5 and 14. -/
def ladderNone : Vector (BitVec 32) 16 :=
  #v[0, 0, 0, 0, 0, 0, 0, 0, 0, 0, 0, 0, 0, 0, 0, 0]

/-- R113, ladders 6 to 10. PRESUMED by the spec. -/
def ladder40 : Vector (BitVec 32) 16 :=
  #v[48000, 96000, 128000, 192000, 256000, 0, 0, 0, 0, 0, 0, 0, 0, 0, 0, 0]

def ladder512 : Vector (BitVec 32) 16 :=
  #v[152000, 320000, 480000, 576000, 0, 0, 0, 0, 0, 0, 0, 0, 0, 0, 0, 0]

def ladder514 : Vector (BitVec 32) 16 :=
  #v[176000, 384000, 576000, 704000, 256000, 448000, 0, 0, 0, 0, 0, 0, 0, 0, 0, 0]

def ladder712 : Vector (BitVec 32) 16 :=
  #v[216000, 480000, 576000, 384000, 768000, 0, 0, 0, 0, 0, 0, 0, 0, 0, 0, 0]

def ladder714 : Vector (BitVec 32) 16 :=
  #v[240000, 608000, 384000, 512000, 832000, 0, 0, 0, 0, 0, 0, 0, 0, 0, 0, 0]

/-- R113, ladders 11 to 13. PRESUMED by the spec. -/
def ladderHoa1 : Vector (BitVec 32) 16 :=
  #v[48000, 96000, 128000, 192000, 256000, 0, 0, 0, 0, 0, 0, 0, 0, 0, 0, 0]

def ladderHoa2 : Vector (BitVec 32) 16 :=
  #v[192000, 256000, 320000, 384000, 480000, 512000, 640000, 0, 0, 0, 0, 0, 0, 0, 0, 0]

def ladderHoa3 : Vector (BitVec 32) 16 :=
  #v[256000, 320000, 384000, 512000, 640000, 896000, 0, 0, 0, 0, 0, 0, 0, 0, 0, 0]

/-- R113. -/
def defaultLadder : Vector (Vector (BitVec 32) 16) 15 :=
  #v[ladderMono, ladderStereo, ladder51, ladder71, ladderNone, ladderNone, ladder40, ladder512, ladder514, ladder712,
     ladder714, ladderHoa1, ladderHoa2, ladderHoa3, ladderNone]

/-- R114. The tags are PRESUMED by the spec. -/
def defaultRes : Vector ResEntry 3 :=
  #v[⟨8, 0⟩, ⟨16, 1⟩, ⟨24, 2⟩]

/-- R111 to R114. -/
def defaultRom : Rom :=
  { sr := defaultSr, cc := defaultCc, ladder := defaultLadder, res := defaultRes }

/-- The default instantiation of the parameters (R2, R111 to R114): log 1. -/
def defaultParams : Params :=
  { rom := defaultRom, nnMin := 0, nnMax := 1, wf := by decide }

/-! ## The free value -/

/-- The registers that can hold no value (R22, R24, R28, R134), the two of them that are not in the record last, and
the output port `probe_hit`, which is unspecified while BUSY (R244). -/
inductive Reg where
  | syncWord | codecId | ancillaryDataFlag | neuralNetworkType | codingProfile | samplingRateIndex | samplingRate
  | contentType | soundbedType | channelConfigIndex | channelCount | objectCount | totalChannelCount | bitrateIndex
  | perObjectBitrateIndex | totalBitrate | resolutionIndex | resolutionBits | sampleFormat | ambisonicOrder
  | frameBytes | soundbed | probeHit
  deriving DecidableEq, Repr

/-- FREE VALUE (U3, U4, U14: "any value"): the pattern that register `r` shows at clock edge `tick` where it holds no
value. It has no body: a statement about it holds for every pattern (log 5). -/
opaque noValue (r : Reg) (tick : Nat) : BitVec 64

/-- The state that holds some unspecified value before the first reset (R241): all of R10 but the ROMs and the registers
of `Reg`, which then hold no value. -/
inductive PowerUpReg where
  | cmdL | w | flbL | flfsL | fsm | pos | status | probeHit
  deriving DecidableEq, Repr

/-- FREE VALUE (R241, U12: "any value for everything but the ROMs"): the pattern that `r` holds at clock edge `tick`
before the first reset. It has no body: a statement about it holds for every pattern (log 19). -/
opaque powerUp (r : PowerUpReg) (tick : Nat) : BitVec 72

end Sys2Proof.Config
end

