-- ==== Sys2Proof/Machine/Window.lean ====
section
/-!
DEFINITION. Reading the window: bit order, the memory read primitive and the view by bytes (R5, R40 to R46).
There is no write: the block never writes the window (R40).
-/

namespace Sys2Proof.Machine

/-- `MemRead(p, n)` (R5): the `n` window bits from stream position `p`, the first one most significant.
The spec defines it for `1 <= n <= 32` and `p + n <= 72`; the cursor checks that before it reads (R90). -/
def memRead (w : Window) (p n : Nat) : BitVec n :=
  w.extractLsb' (windowBits - p - n) n

/-- `W.byte[k]`, `0 <= k <= 8` (00_scope.md, notation): byte `k` of the window in stream order. -/
def windowByte (w : Window) (k : Nat) : Byte :=
  memRead w (8 * k) 8

/-- The window made of nine bytes in stream order, byte 0 in `win[71:64]` (R5, R44). -/
def windowOfNine (b0 b1 b2 b3 b4 b5 b6 b7 b8 : Byte) : Window :=
  b0 ++ b1 ++ b2 ++ b3 ++ b4 ++ b5 ++ b6 ++ b7 ++ b8

/-- The window of a byte sequence: exactly nine bytes make one; a shorter (or longer) one cannot be presented to
the block (R41). -/
def windowOfBytes : List Byte → Option Window
  | [b0, b1, b2, b3, b4, b5, b6, b7, b8] => some (windowOfNine b0 b1 b2 b3 b4 b5 b6 b7 b8)
  | _ => none

/-- The probe's big-endian 16-bit read of the first two bytes (R45, R188). -/
def probeWord (w : Window) : BitVec 16 :=
  windowByte w 0 ++ windowByte w 1

end Sys2Proof.Machine
end

