-- ==== Sys2Proof/Syntax.lean ====
section
/-!
DEFINITION. The instructions: one constructor per row of the table, the four header formats that DECODE executes
(R60, R62 to R65) and the four commands (R185). The operands of a header are its fields in the order of the text
notation R74; the fixed fields (sync word, codec id, ancillary flag, profile, soundbed type) are the constructor.
The operands of a command are the latched inputs (R13), which stand in State.
-/

namespace Sys2Proof

/-- The instructions of AV3A-HDC. -/
inductive Instr where
  /-- `hdr.chb`, channel-based (R62): neural-network type, sampling-rate index, checksum 1, channel configuration,
  resolution index, bitrate index, checksum 2, unread bits. -/
  | chb (nn : BitVec 3) (sr : BitVec 4) (ck1 : BitVec 8) (cc : BitVec 7) (res : BitVec 2) (br : BitVec 4)
      (ck2 : BitVec 8) (pad : BitVec 16)
  /-- `hdr.obj`, object-based (R63): `oc` is the raw object count, `obr` the per-object bitrate index. -/
  | obj (nn : BitVec 3) (sr : BitVec 4) (ck1 : BitVec 8) (oc : BitVec 7) (obr : BitVec 4) (res : BitVec 2)
      (ck2 : BitVec 8) (pad : BitVec 14)
  /-- `hdr.mix`, channel and object (R64): `br` is the bitrate index of the soundbed. -/
  | mix (nn : BitVec 3) (sr : BitVec 4) (ck1 : BitVec 8) (cc : BitVec 7) (br : BitVec 4) (oc : BitVec 7)
      (obr : BitVec 4) (res : BitVec 2) (ck2 : BitVec 8) (pad : BitVec 3)
  /-- `hdr.hoa`, ambisonic (R65): `ho` is the raw order. -/
  | hoa (nn : BitVec 3) (sr : BitVec 4) (ck1 : BitVec 8) (ho : BitVec 4) (res : BitVec 2) (br : BitVec 4)
      (ck2 : BitVec 8) (pad : BitVec 19)
  /-- `nop` (R186). -/
  | nop
  /-- `probe` (R188). -/
  | probe
  /-- `decode` (R189). -/
  | decode
  /-- `framelen` (R190). -/
  | framelen
  deriving DecidableEq, Repr

end Sys2Proof
end

