-- ==== Sys2Proof/Decode.lean ====
section
/-!
DEFINITION. Decoding and encoding (R60 to R68, R185): the format of a window by match and mask, its fields by stream
position, the command codes, the same from bytes, and the encoder. Decoding is total: what is no instruction is
rejected by name.
-/

namespace Sys2Proof

open Machine (memRead windowOfBytes)

/-- Why bits are no instruction of the table. A window rejected here is no header of any format; DECODE still runs on
it and ends INVALID (R69). -/
inductive Reject where
  /-- The sync word is not 0xFFF. -/
  | syncWord
  /-- The codec id is not 2. -/
  | codecId
  /-- The ancillary-data flag is set. -/
  | ancillaryFlag
  /-- The coding profile is 3..7. -/
  | codingProfile
  /-- Under profile 1 the soundbed type is 2 or 3. -/
  | soundbedType
  /-- The byte of a command has bits above the two of the port. -/
  | commandBits
  /-- Neither one byte (a command) nor nine (a window, R41). -/
  | length
  deriving DecidableEq, Repr

/-- `match` and `mask` of a format on `win[71:0]` (R67). -/
structure FormatRow where
  matchBits : Window
  maskBits  : Window
  deriving DecidableEq, Repr

/-- The row of `CHB` (R67). -/
def rowChb : FormatRow := ⟨0xFFF200000000000000#72, 0xFFFF8E000000000000#72⟩
/-- The row of `OBJ` (R67). -/
def rowObj : FormatRow := ⟨0xFFF202000000000000#72, 0xFFFF8E001800000000#72⟩
/-- The row of `MIX` (R67). -/
def rowMix : FormatRow := ⟨0xFFF202000800000000#72, 0xFFFF8E001800000000#72⟩
/-- The row of `HOA` (R67). -/
def rowHoa : FormatRow := ⟨0xFFF204000000000000#72, 0xFFFF8E000000000000#72⟩

/-- A window has the format if `(w AND mask) = match` (R67). -/
def FormatRow.selects (r : FormatRow) (w : Window) : Bool := w &&& r.maskBits == r.matchBits

/-- The fields of a `CHB` window (R61, R62). -/
def readChb (w : Window) : Instr :=
  .chb (memRead w 17 3) (memRead w 23 4) (memRead w 27 8) (memRead w 35 7) (memRead w 42 2) (memRead w 44 4)
    (memRead w 48 8) (memRead w 56 16)

/-- The fields of an `OBJ` window (R61, R63). -/
def readObj (w : Window) : Instr :=
  .obj (memRead w 17 3) (memRead w 23 4) (memRead w 27 8) (memRead w 37 7) (memRead w 44 4) (memRead w 48 2)
    (memRead w 50 8) (memRead w 58 14)

/-- The fields of a `MIX` window (R61, R64). -/
def readMix (w : Window) : Instr :=
  .mix (memRead w 17 3) (memRead w 23 4) (memRead w 27 8) (memRead w 37 7) (memRead w 44 4) (memRead w 48 7)
    (memRead w 55 4) (memRead w 59 2) (memRead w 61 8) (memRead w 69 3)

/-- The fields of an `HOA` window (R61, R65). -/
def readHoa (w : Window) : Instr :=
  .hoa (memRead w 17 3) (memRead w 23 4) (memRead w 27 8) (memRead w 35 4) (memRead w 39 2) (memRead w 41 4)
    (memRead w 45 8) (memRead w 53 19)

/-- The first fixed field, in stream order, that keeps a window from having any format (R61, R69). -/
def rejectWindow (w : Window) : Reject :=
  if memRead w 0 12 ≠ Config.syncWord then .syncWord
  else if memRead w 12 4 ≠ Config.codecLossy then .codecId
  else if memRead w 16 1 ≠ 0 then .ancillaryFlag
  else if memRead w 20 3 = 1 then .soundbedType
  else .codingProfile

/-- The header instruction that a window holds (R67, R73). -/
def decodeWindow (w : Window) : Except Reject Instr :=
  if rowChb.selects w then .ok (readChb w)
  else if rowObj.selects w then .ok (readObj w)
  else if rowMix.selects w then .ok (readMix w)
  else if rowHoa.selects w then .ok (readHoa w)
  else .error (rejectWindow w)

/-- The command of a code on port `cmd` (R185): all four codes are defined. -/
def decodeCommand (c : BitVec 2) : Instr :=
  if c = 0 then .nop else if c = 1 then .probe else if c = 2 then .decode else .framelen

/-- Decoding bytes: nine are a window, one is a command code in its low two bits (log 12). -/
def decodeBytes (bs : List Byte) : Except Reject Instr :=
  match windowOfBytes bs with
  | some w => decodeWindow w
  | none =>
    match bs with
    | [b] => if b.toNat < 4 then .ok (decodeCommand (b.setWidth 2)) else .error .commandBits
    | _ => .error .length

/-! ## The encoder, from the same tables -/

/-- An encoded instruction: a header is a window, a command is a code on port `cmd` (R75). -/
inductive Encoded where
  | window (w : Window)
  | command (c : BitVec 2)
  deriving DecidableEq, Repr

/-- The common prefix, positions 0..34 (R61). -/
def encodePrefix (nn profile : BitVec 3) (sr : BitVec 4) (ck1 : BitVec 8) : BitVec 35 :=
  Config.syncWord ++ Config.codecLossy ++ 0#1 ++ nn ++ profile ++ sr ++ ck1

/-- The word of an instruction (R61 to R65, R185). -/
def encode : Instr → Encoded
  | .chb nn sr ck1 cc res br ck2 pad => .window (encodePrefix nn 0 sr ck1 ++ cc ++ res ++ br ++ ck2 ++ pad)
  | .obj nn sr ck1 oc obr res ck2 pad => .window (encodePrefix nn 1 sr ck1 ++ 0#2 ++ oc ++ obr ++ res ++ ck2 ++ pad)
  | .mix nn sr ck1 cc br oc obr res ck2 pad =>
      .window (encodePrefix nn 1 sr ck1 ++ 1#2 ++ cc ++ br ++ oc ++ obr ++ res ++ ck2 ++ pad)
  | .hoa nn sr ck1 ho res br ck2 pad => .window (encodePrefix nn 2 sr ck1 ++ ho ++ res ++ br ++ ck2 ++ pad)
  | .nop => .command 0
  | .probe => .command 1
  | .decode => .command 2
  | .framelen => .command 3

/-- Decoding an encoded word. -/
def decodeEncoded : Encoded → Except Reject Instr
  | .window w => decodeWindow w
  | .command c => .ok (decodeCommand c)

/-- The bytes of a window in stream order (R44). -/
def windowBytesOf (w : Window) : List Byte :=
  (List.range windowBytes).map (Machine.windowByte w)

/-- The bytes of an encoded word: the nine of a window, or one with the command code (log 12). -/
def Encoded.bytes : Encoded → List Byte
  | .window w => windowBytesOf w
  | .command c => [c.setWidth 8]

/-- The instruction read from bits numbered as the opcode table numbers them: the 72 bits of a header row are those of
`win[71:0]`, and a command row has two bits, in whole bytes eight (log 12). -/
def decodeTableWord (nbits w : Nat) : Option Instr :=
  let bytes :=
    if nbits = 72 ∧ w < 2 ^ 72 then windowBytesOf (BitVec.ofNat 72 w)
    else if (nbits = 8 ∨ nbits = 2) ∧ w < 2 ^ 8 then [BitVec.ofNat 8 w]
    else []
  (decodeBytes bytes).toOption

end Sys2Proof
end

