-- ==== Sys2Proof/Machine/State.lean ====
section
/-!
DEFINITION. The state of the block as plain data (R10 to R32), the reasons a step can stop, and the state after reset
(R32, R240). The fields `resetDone`, `cause`, `inputs` and `tick` are the
model's own (log 19, log 6, log 4, log 5).
-/

namespace Sys2Proof.Machine

/-- `STATUS` (R26). -/
inductive Status where
  | idle | busy | ok | invalid
  deriving DecidableEq, Repr

/-- `FSM`, the sequencing states in the order of the table of R15. -/
inductive Fsm where
  /-- `S_IDLE` -/
  | idle
  /-- `S1_SYNC` -/
  | s1Sync
  /-- `S2_CODEC` -/
  | s2Codec
  /-- `S3_ANC` -/
  | s3Anc
  /-- `S4_NN` -/
  | s4Nn
  /-- `S5_PROFILE` -/
  | s5Profile
  /-- `S6_SRIDX` -/
  | s6SrIdx
  /-- `S7_SKIP1` -/
  | s7Skip1
  /-- `S8_BRANCH` -/
  | s8Branch
  /-- `S8A_CHCFG` -/
  | s8aChCfg
  /-- `S8B_SBTYPE` -/
  | s8bSbType
  /-- `S8B0_OBJCNT` -/
  | s8b0ObjCnt
  /-- `S8B0_OBJBR` -/
  | s8b0ObjBr
  /-- `S8B1_CHCFG` -/
  | s8b1ChCfg
  /-- `S8B1_BR` -/
  | s8b1Br
  /-- `S8B1_OBJCNT` -/
  | s8b1ObjCnt
  /-- `S8B1_OBJBR` -/
  | s8b1ObjBr
  /-- `S8C_ORDER` -/
  | s8cOrder
  /-- `S9_TOTAL` -/
  | s9Total
  /-- `S10_RES` -/
  | s10Res
  /-- `S11_BR` -/
  | s11Br
  /-- `S12_SKIP2` -/
  | s12Skip2
  /-- `S13_DONE` -/
  | s13Done
  /-- `S_PROBE` -/
  | sProbe
  /-- `S_FLC` -/
  | sFlc
  deriving DecidableEq, Repr

/-- The content type (R20, D11); its 2-bit codes appear only at the port (`ContentType.code`). -/
inductive ContentType where
  | channelBased | objectBased | channelObject | ambisonic
  deriving DecidableEq, Repr

/-- The causes of INVALID (R211). They are ghost labels: no port shows them. -/
inductive Cause where
  /-- `E_SYNC` -/
  | sync
  /-- `E_CODEC` -/
  | codec
  /-- `E_ANC` -/
  | anc
  /-- `E_NN` -/
  | nn
  /-- `E_SRIDX` -/
  | srIdx
  /-- `E_PROFILE` -/
  | profile
  /-- `E_CHCFG` -/
  | chCfg
  /-- `E_SOUNDBED` -/
  | soundbed
  /-- `E_OBJBR` -/
  | objBr
  /-- `E_BR` -/
  | br
  /-- `E_HOA` -/
  | hoa
  /-- `E_RES` -/
  | res
  /-- `E_FLDOM`, the only cause of FRAMELEN -/
  | flDom
  deriving DecidableEq, Repr

/-- The header-record registers `REC.*` (R20). `none` is the spec's own "holds no value" (R22, R24, U3): log 2. -/
structure Record where
  syncWord              : Option (BitVec 12)
  codecId               : Option (BitVec 4)
  ancillaryDataFlag     : Option (BitVec 1)
  neuralNetworkType     : Option (BitVec 3)
  codingProfile         : Option (BitVec 3)
  samplingRateIndex     : Option (BitVec 4)
  samplingRate          : Option (BitVec 32)
  contentType           : Option ContentType
  soundbedType          : Option (BitVec 2)
  channelConfigIndex    : Option (BitVec 7)
  channelCount          : Option (BitVec 8)
  objectCount           : Option (BitVec 8)
  totalChannelCount     : Option (BitVec 9)
  bitrateIndex          : Option (BitVec 4)
  perObjectBitrateIndex : Option (BitVec 4)
  totalBitrate          : Option (BitVec 64)
  resolutionIndex       : Option (BitVec 2)
  resolutionBits        : Option (BitVec 8)
  sampleFormat          : Option (BitVec 8)
  /-- `hoa_order = raw + 1` (R21). -/
  ambisonicOrder        : Option (BitVec 4)
  deriving DecidableEq, Repr

/-- Every `REC` register holds no value (R24, R32). -/
def Record.empty : Record :=
  { syncWord := none, codecId := none, ancillaryDataFlag := none, neuralNetworkType := none, codingProfile := none,
    samplingRateIndex := none, samplingRate := none, contentType := none, soundbedType := none,
    channelConfigIndex := none, channelCount := none, objectCount := none, totalChannelCount := none,
    bitrateIndex := none, perObjectBitrateIndex := none, totalBitrate := none, resolutionIndex := none,
    resolutionBits := none, sampleFormat := none, ambisonicOrder := none }

/-- How far the block gets at one clock edge. The spec fixes no number of edges of a command (R187, U13) and allows a
command to be one atomic transition or one FSM state per step (R187, D26): log 4, log 11. -/
inductive Pace where
  /-- The command in progress gets no further at this edge. -/
  | hold
  /-- The block passes one FSM state. -/
  | state
  /-- The block completes the command. -/
  | command
  deriving DecidableEq, Repr

/-- The input ports (R12) at one clock edge, as the host drives them, and how far the block gets at that edge. -/
structure PortSample where
  rst   : Bool
  start : Bool
  cmd   : BitVec 2
  win   : Window
  flB   : BitVec 64
  flFs  : BitVec 32
  pace  : Pace
  deriving DecidableEq, Repr

/-- The ports of a host that does nothing: no reset and no start (R186). This is also what an edge past the end of
`inputs` sees. DESIGN CHOICE (log 4): a command in progress then passes one FSM state per edge; the spec leaves the number
of edges open (R187, R249, U13). -/
def PortSample.quiet : PortSample :=
  { rst := false, start := false, cmd := 0, win := 0, flB := 0, flFs := 0, pace := .state }

/-- The state of AV3A-HDC. -/
structure State where
  /-- The parameters of the step relation (R3, R11), the four ROMs among them (R10, R31); no step changes them: log 1. -/
  params     : Config.Params
  /-- `CMD_L` (R13, R29). -/
  cmdL       : BitVec 2
  /-- `W`, the latched window (R13, R40). -/
  w          : Window
  /-- `FLB_L` (R13). -/
  flbL       : BitVec 64
  /-- `FLFS_L` (R13). -/
  flfsL      : BitVec 32
  /-- `FSM` (R15). -/
  fsm        : Fsm
  /-- `POS`, the bit cursor (R14). -/
  pos        : BitVec 7
  /-- `soundbed_bitrate`, the temporary of R134 that lives until R136: log 10. -/
  soundbed   : Option (BitVec 64)
  /-- `REC.*` (R20). -/
  record     : Record
  /-- `STATUS` (R26). -/
  status     : Status
  /-- `PROBE_HIT` (R27). -/
  probeHit   : BitVec 1
  /-- `FRAME_BYTES` (R28). -/
  frameBytes : Option (BitVec 64)
  /-- MODEL: the block has been reset since power-up (R241); without that no command may start: log 19. -/
  resetDone  : Bool
  /-- MODEL: the label of the failure that ended the last command, ghost (R211): log 6. -/
  cause      : Option Cause
  /-- MODEL: what the host drives at the coming clock edges, first one first: log 4. -/
  inputs     : List PortSample
  /-- MODEL: the number of clock edges so far, the index of the free value `Config.noValue`: log 5. -/
  tick       : Nat
  deriving DecidableEq, Repr

/-- Why the machine stops with a fault. Each is raised only in states that no run from reset reaches. -/
inductive Fault where
  /-- Raised by `ladderEntry` (states `S8B1_BR` and `S11_BR`) when `REC.channel_config_index` names no entry of the
  15-entry `LADDER_ROM` (R31, R107). Safe: the model stops; every index the grammar accepts is below 14 (R104). -/
  | ladderOutsideRom
  /-- Raised by `stepDone` (state `S13_DONE`) when the rate is 0 or the total bitrate is `2^54` or more, outside the
  domain of `FrameLen` (R170, R176). Safe: the model stops; R142 says that no decode gets there. -/
  | frameLenDomain
  /-- Raised by `finish` when a command has not ended after more FSM states than there are (R187: every command
  completes). Safe: the model stops; no state at all leads there. -/
  | noProgress
  deriving DecidableEq, Repr

/-- Why a step is refused. -/
inductive Refusal where
  /-- Raised by an arm of `exec` for an instruction without a meaning. Safe: the model stops. No arm raises it. -/
  | notModelled (mnemonic : String)
  /-- Raised by `withRead` and `withSkip` when the cursor would pass position 72 (U1, D31: refuse). Safe: the model
  stops; the grammar never issues such an access (R93). -/
  | cursorPastWindow
  /-- Raised by `withRead` for a width outside 1..32 (U2, D31: refuse). Safe: the model stops; the grammar issues only
  the widths of R48. -/
  | readWidth
  /-- Raised by `clockEdge` for a start before the first reset (R241, U12: refuse). Safe: the model stops; the host must
  reset the block first, and no state after a reset leads here. -/
  | commandBeforeReset
  deriving DecidableEq, Repr

/-- The state right after reset (R32, R240). The spec gives STATUS, FSM, POS, PROBE_HIT, and "no value" for
FRAME_BYTES and REC; the latches are 0 by log 3, the parameters are the default ones by log 1. -/
def State.reset : State :=
  { params := Config.defaultParams
    cmdL := 0, w := 0, flbL := 0, flfsL := 0
    fsm := .idle, pos := 0, soundbed := none, record := Record.empty
    status := .idle, probeHit := 0, frameBytes := none
    resetDone := true, cause := none, inputs := [], tick := 0 }

end Sys2Proof.Machine
end

