-- ==== Sys2Proof/Machine/Flags.lean ====
section
/-!
DEFINITION. The block has no flags and no condition codes (R30): every check either lets the command go on or ends it.
This file holds those checks that compare a field with a constant or a bound, and the codes of the enumerated
registers as the ports show them. The checks of the table indices stand in Operands.lean, one place per table (R100).
-/

namespace Sys2Proof.Machine

/-- Step 1 (R121): all 12 bits of the sync word. -/
def syncOk (v : BitVec 12) : Bool := v == Config.syncWord

/-- Step 2 (R122): the one accepted codec id. -/
def codecOk (v : BitVec 4) : Bool := v == Config.codecLossy

/-- Step 3 (R123): the ancillary-data flag is 0. -/
def ancOk (v : BitVec 1) : Bool := v == 0#1

/-- Step 4 (R124): the neural-network type lies in `NN_MIN..NN_MAX`. -/
def nnOk (P : Config.Params) (v : BitVec 3) : Bool := P.nnMin.ule v && v.ule P.nnMax

/-- The sync comparison of the probe (R188): the top 12 bits of the big-endian 16-bit read, after a 4-bit right
shift, are the sync word. -/
def probeMatches (w : Window) : Bool := probeWord w >>> 4 == Config.syncWord.setWidth 16

/-- The domain of FRAMELEN and of `FrameLen` (R190, D16): the rate is not 0 and the bitrate is below `2^54`. -/
def frameLenDefined (b : BitVec 64) (fs : BitVec 32) : Bool := fs != 0#32 && decide (b.toNat < Config.bitrateLimit)

/-- The 2-bit code of `STATUS` on port `status` (R26). -/
def Status.code : Status → BitVec 2
  | .idle => 0
  | .busy => 1
  | .ok => 2
  | .invalid => 3

/-- The 2-bit code of `REC.content_type` at the port (R20, D11). -/
def ContentType.code : ContentType → BitVec 2
  | .channelBased => 0
  | .objectBased => 1
  | .channelObject => 2
  | .ambisonic => 3

end Sys2Proof.Machine
end

