-- ==== Sys2Proof/Machine/FrameLen.lean ====
section
/-!
DEFINITION. The frame length calculator (R170 to R179), in the exact integer forms of R171 and R172 (D14): log 15.
The two rounding paths stay two functions (R173).
-/

namespace Sys2Proof.Machine

/-- The 44100 Hz path (R171): floor to whole bits first, then up to whole bytes. -/
def frameLenFloorFirst (b : Nat) : Nat := (b * 1024 / 44100 + 7) / 8

/-- The path of every other rate (R172): one ceiling of the exact quotient. -/
def frameLenSingleCeil (b fs : Nat) : Nat := (b * 128 + fs - 1) / fs

/-- `FrameLen(B, fs)` for `fs != 0` (R170); the path is selected by the value of the rate (R175). -/
def frameLen (b fs : Nat) : Nat :=
  if fs = Config.specialRate then frameLenFloorFirst b else frameLenSingleCeil b fs

/-- The 64-bit value of `FRAME_BYTES` (R28, R176). -/
def frameLenBits (b : BitVec 64) (fs : BitVec 32) : BitVec 64 := BitVec.ofNat 64 (frameLen b.toNat fs.toNat)

end Sys2Proof.Machine
end

