-- ==== Sys2Proof/Machine/Ops.lean ====
section
/-!
DEFINITION. The named operations over the state: reading a register, the bit cursor (R90 to R94), the start of a
command (R13, R186), the start of a decode (R189), its two ends (R142, R212), reset (R240) and the state before the first
reset (R241).
-/

namespace Sys2Proof.Machine

/-! ## Registers -/

/-- What a register that holds no value reads as: the free value of that register at this clock edge (U3). -/
def State.floating (s : State) (r : Config.Reg) (n : Nat) : BitVec n := (Config.noValue r s.tick).setWidth n

/-- Read register `r`, whose content is `o` (R30: nothing but the spec's registers is read). No run from reset reads a
register without a value inside the grammar: log 7. -/
def State.readReg (s : State) (r : Config.Reg) {n : Nat} (o : Option (BitVec n)) : BitVec n := o.getD (s.floating r n)

/-! ## The bit cursor -/

/-- `REMAINING()` (R92): the bits left. No step of the grammar uses it. -/
def State.remaining (s : State) : Nat := windowBits - s.pos.toNat

/-- The cursor after `n` more bits (R14). -/
def State.advancePos (s : State) (n : Nat) : State := { s with pos := s.pos + BitVec.ofNat 7 n }

/-- `READ(n)` (R90), then `k` with the value read and the state after it. A width outside 1..32 and a read past
position 72 are refused (U1, U2, D31). -/
def withRead (n : Nat) (s : State) (k : BitVec n → State → Host.Outcome State Fault Refusal) :
    Host.Outcome State Fault Refusal :=
  if 1 ≤ n ∧ n ≤ 32 then
    if s.pos.toNat + n ≤ windowBits then k (memRead s.w s.pos.toNat n) (s.advancePos n)
    else .refused .cursorPastWindow
  else .refused .readWidth

/-- `SKIP(n)` (R91), then `k` with the state after it; the skipped bits are not examined. -/
def withSkip (n : Nat) (s : State) (k : State → Host.Outcome State Fault Refusal) : Host.Outcome State Fault Refusal :=
  if s.pos.toNat + n ≤ windowBits then k (s.advancePos n) else .refused .cursorPastWindow

/-! ## Taking a failure and completing -/

/-- `raise Invalid(cause)` (R212), the one exception of this hardware: INVALID, S_IDLE, FRAME_BYTES without a value;
a failed DECODE also takes every `REC` register's value (and the temporary of R134), FRAMELEN leaves them. PROBE_HIT is
unchanged and POS stays where it was. Nothing is saved and control goes nowhere; there is no return (R215, R216). -/
def State.raiseInvalid (s : State) (c : Cause) : State :=
  match c with
  | .flDom => { s with status := .invalid, fsm := .idle, frameBytes := none, cause := some .flDom }
  | _ => { s with status := .invalid, fsm := .idle, frameBytes := none, record := Record.empty, soundbed := none,
                  cause := some c }

/-- The end of a command that succeeds: OK and S_IDLE (R142, R188, R190). -/
def State.complete (s : State) : State := { s with status := .ok, fsm := .idle, cause := none }

/-! ## Starting a command -/

/-- R13: the inputs are copied into the latches. -/
def State.latch (s : State) (p : PortSample) : State :=
  { s with cmdL := p.cmd, w := p.win, flbL := p.flB, flfsL := p.flFs }

/-- The start of DECODE (R24, R94, R189): POS is 0, every `REC` register and FRAME_BYTES lose their values, S1_SYNC. -/
def State.startDecode (s : State) : State :=
  { s with pos := 0, record := Record.empty, frameBytes := none, soundbed := none, fsm := .s1Sync }

/-- The start edge (R186): latch, BUSY, the first state of the command; NOP latches nothing and changes nothing. -/
def State.begin (s : State) (p : PortSample) : State :=
  if p.cmd = 0 then s
  else
    let s' := { s.latch p with status := .busy, cause := none }
    if p.cmd = 1 then { s' with fsm := .sProbe }
    else if p.cmd = 2 then s'.startDecode
    else { s' with fsm := .sFlc }

/-! ## Reset -/

/-- A clock edge with `rst = 1` (R240), in any state: a command in progress is abandoned; the latches are 0 by log 3. -/
def State.applyReset (s : State) : State :=
  { s with cmdL := 0, w := 0, flbL := 0, flfsL := 0, fsm := .idle, pos := 0, soundbed := none, record := Record.empty,
           status := .idle, probeHit := 0, frameBytes := none, resetDone := true, cause := none }

/-! ## Before the first reset (R241) -/

/-- The states of R15 in the order of its table. -/
def fsmTable : List Fsm :=
  [.idle, .s1Sync, .s2Codec, .s3Anc, .s4Nn, .s5Profile, .s6SrIdx, .s7Skip1, .s8Branch, .s8aChCfg, .s8bSbType, .s8b0ObjCnt,
    .s8b0ObjBr, .s8b1ChCfg, .s8b1Br, .s8b1ObjCnt, .s8b1ObjBr, .s8cOrder, .s9Total, .s10Res, .s11Br, .s12Skip2, .s13Done,
    .sProbe, .sFlc]

/-- Some state of R15, any of them for some pattern. -/
def fsmOfPattern (v : BitVec 72) : Fsm := fsmTable.getD (v.toNat % 25) .idle

/-- The value of `STATUS` with a 2-bit code (R26). -/
def statusOfCode (c : BitVec 2) : Status :=
  if c = 0 then .idle else if c = 1 then .busy else if c = 2 then .ok else .invalid

/-- The unspecified pattern of `r` at this clock edge, in `n` bits. -/
def State.powerUpBits (s : State) (r : Config.PowerUpReg) (n : Nat) : BitVec n := (Config.powerUp r s.tick).setWidth n

/-- Before the first reset everything but the ROMs is unspecified (R241, U12): free values (log 19), and no value in the
registers that can hold none. -/
def State.unspecified (s : State) : State :=
  { s with
    cmdL := s.powerUpBits .cmdL 2, w := s.powerUpBits .w 72, flbL := s.powerUpBits .flbL 64
    flfsL := s.powerUpBits .flfsL 32, fsm := fsmOfPattern (s.powerUpBits .fsm 72), pos := s.powerUpBits .pos 7
    soundbed := none, record := Record.empty, status := statusOfCode (s.powerUpBits .status 2)
    probeHit := s.powerUpBits .probeHit 1, frameBytes := none, resetDone := false, cause := none }

/-- The block after power-up and before its first reset, with the parameters `P` (R32: the ROMs hold their constants from
power-up). -/
def State.powerUp (P : Config.Params) : State := { State.reset with params := P }.unspecified

end Sys2Proof.Machine
end

