-- ==== Sys2Proof/Machine/Commands.lean ====
section
/-!
DEFINITION. The commands NOP, PROBE and FRAMELEN (R185, R186, R188, R190). DECODE is in Decoder.lean.
Each works on a state in which the command has been started (`State.begin`): it reads the latched inputs (R13).
-/

namespace Sys2Proof.Machine

/-- `nop` (R186, D29): changes no state, STATUS included. -/
def execNop (s : State) : Host.Outcome State Fault Refusal := .next s

/-- `probe` (R188): PROBE_HIT says whether the sync word matches; STATUS is OK either way (D25). -/
def execProbe (s : State) : Host.Outcome State Fault Refusal :=
  .next { s with probeHit := BitVec.ofBool (probeMatches s.w) }.complete

/-- `framelen` (R190): the frame length of the latched operands, or INVALID outside its domain. -/
def execFramelen (s : State) : Host.Outcome State Fault Refusal :=
  if frameLenDefined s.flbL s.flfsL then
    .next { s with frameBytes := some (frameLenBits s.flbL s.flfsL) }.complete
  else .next (s.raiseInvalid .flDom)

end Sys2Proof.Machine
end

