-- ==== Sys2Proof/Machine/Operands.lean ====
section
/-!
DEFINITION. The lookup-table indexers (R100 to R108): each checks its index, in this one place for its table, before
it reads the ROM, and answers the entry or the cause of the failure; and the total bitrates (R160 to R163).
-/

namespace Sys2Proof.Machine

/-- `SRATE(i)` (R102). -/
def srate (P : Config.Params) (i : BitVec 4) : Except Cause (BitVec 32) :=
  if h : i.toNat < 9 then .ok P.rom.sr[i.toNat] else .error .srIdx

/-- `CHCFG(c)` (R104): reject the sentinel 14 and everything above it, and the reserved 4 and 5. -/
def chcfg (P : Config.Params) (c : BitVec 7) : Except Cause (BitVec 8) :=
  if h : c.toNat < 14 ∧ c.toNat ≠ 4 ∧ c.toNat ≠ 5 then .ok P.rom.cc[c.toNat] else .error .chCfg

/-- What `HOASLOT` answers (R105): the order, its table slot and the slot's channel count. -/
structure HoaSlot where
  order    : BitVec 4
  slot     : BitVec 7
  channels : BitVec 8
  deriving DecidableEq, Repr

/-- `HOASLOT(raw)` (R105): `hoa_order = raw + 1` must be 1, 2 or 3; its slot is `10 + hoa_order`. -/
def hoaSlot (P : Config.Params) (raw : BitVec 4) : Except Cause HoaSlot :=
  let order := raw.toNat + 1
  if h : order ≤ 3 then
    .ok { order := BitVec.ofNat 4 order, slot := BitVec.ofNat 7 (10 + order), channels := P.rom.cc[10 + order] }
  else .error .hoa

/-- The entries of ladder `c`; a `c` outside the 15 ladders has none (`ladderEntry` faults there). -/
def ladderEntries (P : Config.Params) (c : Nat) : List (BitVec 32) :=
  if h : c < 15 then P.rom.ladder[c].toList else []

/-- The live entries of ladder `c`: those before its first zero (R106). -/
def liveEntries (P : Config.Params) (c : Nat) : List (BitVec 32) :=
  (ladderEntries P c).takeWhile (· != 0#32)

/-- `LIVE(c)` (R106): the number of leading non-zero entries of ladder `c`. -/
def live (P : Config.Params) (c : Nat) : Nat :=
  (liveEntries P c).length

/-- `LADDER(c, i, cause)` (R107): the entry at `i` if `i < LIVE(c)`, else the caller's cause. -/
def ladder (P : Config.Params) (c : Nat) (i : BitVec 4) (cause : Cause) : Except Cause (BitVec 32) :=
  match (liveEntries P c)[i.toNat]? with
  | some b => .ok b
  | none => .error cause

/-- `RES(i)` (R108). -/
def resolution (P : Config.Params) (i : BitVec 2) : Except Cause Config.ResEntry :=
  if h : i.toNat < 3 then .ok P.rom.res[i.toNat] else .error .res

/-- `object_count = raw_object_field + 1` (R68, R71), 8 bits wide. -/
def objectCountOf (raw : BitVec 7) : BitVec 8 := raw.setWidth 8 + 1

/-- `total_channel_count = channel_count + object_count` (R138), 9 bits wide. -/
def totalChannels (channels objects : BitVec 8) : BitVec 9 := channels.setWidth 9 + objects.setWidth 9

/-- Total bitrate of channel-based and ambisonic content (R160): the ladder entry, zero-extended. -/
def ladderBitrate (b : BitVec 32) : BitVec 64 := b.setWidth 64

/-- Total bitrate of object-based content (R161). -/
def objectBitrate (b : BitVec 32) (objects : BitVec 8) : BitVec 64 := b.setWidth 64 * objects.setWidth 64

/-- Total bitrate of channel and object content (R162). -/
def mixBitrate (soundbed : BitVec 64) (b : BitVec 32) (objects : BitVec 8) : BitVec 64 :=
  soundbed + b.setWidth 64 * objects.setWidth 64

end Sys2Proof.Machine
end

