-- ==== Sys2Proof/Machine/Grammar.lean ====
section
/-!
DEFINITION. The sequencing states, one function each (R121 to R142, R188, R190), `micro` which runs the state the
block is in, and `finish` which runs it until the command ends. This is the small-step form, normative for the order
of the checks (D26).
-/

namespace Sys2Proof.Machine

/-- A step of the grammar that ends the command with a failure. -/
def failWith (s : State) (c : Cause) : Host.Outcome State Fault Refusal := .next (s.raiseInvalid c)

/-- Go on to state `f` with record `r`. -/
def goOn (s : State) (f : Fsm) (r : Record) : Host.Outcome State Fault Refusal :=
  .next { s with fsm := f, record := r }

/-- An indexer's answer (R100): go on with the entry, or end the command with its cause. -/
def withEntry {α : Type} (s : State) (e : Except Cause α) (k : α → Host.Outcome State Fault Refusal) :
    Host.Outcome State Fault Refusal :=
  match e with
  | .ok v => k v
  | .error c => failWith s c

/-- `LADDER` (R107) at ladder `c`, which must be one of the 15 of the ROM. -/
def ladderEntry (s : State) (c : Nat) (i : BitVec 4) (cause : Cause)
    (k : BitVec 32 → Host.Outcome State Fault Refusal) : Host.Outcome State Fault Refusal :=
  if c < 15 then withEntry s (ladder s.params c i cause) k else .fault .ladderOutsideRom

/-- `S1_SYNC` (R121). -/
def stepSync (s : State) : Host.Outcome State Fault Refusal :=
  withRead 12 s fun v s =>
    if syncOk v then goOn s .s2Codec { s.record with syncWord := some v } else failWith s .sync

/-- `S2_CODEC` (R122). -/
def stepCodec (s : State) : Host.Outcome State Fault Refusal :=
  withRead 4 s fun v s =>
    if codecOk v then goOn s .s3Anc { s.record with codecId := some v } else failWith s .codec

/-- `S3_ANC` (R123). -/
def stepAnc (s : State) : Host.Outcome State Fault Refusal :=
  withRead 1 s fun v s =>
    if ancOk v then goOn s .s4Nn { s.record with ancillaryDataFlag := some v } else failWith s .anc

/-- `S4_NN` (R124). -/
def stepNn (s : State) : Host.Outcome State Fault Refusal :=
  withRead 3 s fun v s =>
    if nnOk s.params v then goOn s .s5Profile { s.record with neuralNetworkType := some v } else failWith s .nn

/-- `S5_PROFILE` (R125): no check here. -/
def stepProfile (s : State) : Host.Outcome State Fault Refusal :=
  withRead 3 s fun v s => goOn s .s6SrIdx { s.record with codingProfile := some v }

/-- `S6_SRIDX` (R126). -/
def stepSrIdx (s : State) : Host.Outcome State Fault Refusal :=
  withRead 4 s fun i s =>
    withEntry s (srate s.params i) fun rate =>
      goOn s .s7Skip1 { s.record with samplingRate := some rate, samplingRateIndex := some i }

/-- `S7_SKIP1` (R127). -/
def stepSkip1 (s : State) : Host.Outcome State Fault Refusal :=
  withSkip 8 s fun s => goOn s .s8Branch s.record

/-- `S8_BRANCH` (R128): dispatch on `REC.coding_profile`. -/
def stepBranch (s : State) : Host.Outcome State Fault Refusal :=
  let profile := s.readReg .codingProfile s.record.codingProfile
  if profile = 0 then goOn s .s8aChCfg s.record
  else if profile = 1 then goOn s .s8bSbType s.record
  else if profile = 2 then goOn s .s8cOrder s.record
  else failWith s .profile

/-- `S8A_CHCFG` (R129). -/
def stepChCfgA (s : State) : Host.Outcome State Fault Refusal :=
  withRead 7 s fun c s =>
    withEntry s (chcfg s.params c) fun n =>
      goOn s .s9Total { s.record with channelCount := some n, channelConfigIndex := some c, objectCount := some 0,
                                      contentType := some .channelBased }

/-- `S8B_SBTYPE` (R130). -/
def stepSbType (s : State) : Host.Outcome State Fault Refusal :=
  withRead 2 s fun t s =>
    if t = 0 then goOn s .s8b0ObjCnt { s.record with soundbedType := some 0, contentType := some .objectBased }
    else if t = 1 then goOn s .s8b1ChCfg { s.record with soundbedType := some 1, contentType := some .channelObject }
    else failWith s .soundbed

/-- `S8B0_OBJCNT` (R131). -/
def stepObjCnt0 (s : State) : Host.Outcome State Fault Refusal :=
  withRead 7 s fun raw s => goOn s .s8b0ObjBr { s.record with objectCount := some (objectCountOf raw) }

/-- `S8B0_OBJBR` (R132): the ladder is always the mono ladder. -/
def stepObjBr0 (s : State) : Host.Outcome State Fault Refusal :=
  withRead 4 s fun q s =>
    ladderEntry s 0 q .objBr fun ob =>
      goOn s .s9Total { s.record with
        perObjectBitrateIndex := some q
        totalBitrate := some (objectBitrate ob (s.readReg .objectCount s.record.objectCount))
        channelCount := some 0 }

/-- `S8B1_CHCFG` (R133). -/
def stepChCfgB (s : State) : Host.Outcome State Fault Refusal :=
  withRead 7 s fun c s =>
    withEntry s (chcfg s.params c) fun n =>
      goOn s .s8b1Br { s.record with channelCount := some n, channelConfigIndex := some c }

/-- `S8B1_BR` (R134): `soundbed_bitrate` is a temporary, not a register of the record. -/
def stepSoundbedBr (s : State) : Host.Outcome State Fault Refusal :=
  withRead 4 s fun b s =>
    ladderEntry s (s.readReg .channelConfigIndex s.record.channelConfigIndex).toNat b .br fun sb =>
      goOn { s with soundbed := some (ladderBitrate sb) } .s8b1ObjCnt { s.record with bitrateIndex := some b }

/-- `S8B1_OBJCNT` (R135). -/
def stepObjCnt1 (s : State) : Host.Outcome State Fault Refusal :=
  withRead 7 s fun raw s => goOn s .s8b1ObjBr { s.record with objectCount := some (objectCountOf raw) }

/-- `S8B1_OBJBR` (R136): the object term always uses the mono ladder; the temporary of R134 ends here. -/
def stepObjBr1 (s : State) : Host.Outcome State Fault Refusal :=
  withRead 4 s fun q s =>
    ladderEntry s 0 q .objBr fun ob =>
      goOn { s with soundbed := none } .s9Total { s.record with
        perObjectBitrateIndex := some q
        totalBitrate := some (mixBitrate (s.readReg .soundbed s.soundbed) ob
                          (s.readReg .objectCount s.record.objectCount)) }

/-- `S8C_ORDER` (R137). -/
def stepOrder (s : State) : Host.Outcome State Fault Refusal :=
  withRead 4 s fun raw s =>
    withEntry s (hoaSlot s.params raw) fun h =>
      goOn s .s9Total { s.record with ambisonicOrder := some h.order, channelConfigIndex := some h.slot,
                                      channelCount := some h.channels, objectCount := some 0,
                                      contentType := some .ambisonic }

/-- `S9_TOTAL` (R138). -/
def stepTotal (s : State) : Host.Outcome State Fault Refusal :=
  goOn s .s10Res { s.record with
    totalChannelCount := some (totalChannels (s.readReg .channelCount s.record.channelCount)
                                (s.readReg .objectCount s.record.objectCount)) }

/-- `S10_RES` (R139). -/
def stepRes (s : State) : Host.Outcome State Fault Refusal :=
  withRead 2 s fun i s =>
    withEntry s (resolution s.params i) fun e =>
      goOn s .s11Br { s.record with resolutionIndex := some i, resolutionBits := some e.bits,
                                    sampleFormat := some e.fmt }

/-- `S11_BR` (R140): the condition is on the profile, so both formats of profile 1 read nothing here (C1). -/
def stepBr (s : State) : Host.Outcome State Fault Refusal :=
  if s.readReg .codingProfile s.record.codingProfile ≠ 1 then
    withRead 4 s fun b s =>
      ladderEntry s (s.readReg .channelConfigIndex s.record.channelConfigIndex).toNat b .br fun e =>
        goOn s .s12Skip2 { s.record with totalBitrate := some (ladderBitrate e), bitrateIndex := some b }
  else goOn s .s12Skip2 s.record

/-- `S12_SKIP2` (R141). -/
def stepSkip2 (s : State) : Host.Outcome State Fault Refusal :=
  withSkip 8 s fun s => goOn s .s13Done s.record

/-- `S13_DONE` (R142): the frame length of the decoded record, and success. -/
def stepDone (s : State) : Host.Outcome State Fault Refusal :=
  let b := s.readReg .totalBitrate s.record.totalBitrate
  let fs := s.readReg .samplingRate s.record.samplingRate
  if frameLenDefined b fs then .next { s with frameBytes := some (frameLenBits b fs) }.complete
  else .fault .frameLenDomain

/-- One FSM state (R15). In `S_IDLE` no command is in progress and nothing happens. -/
def micro (s : State) : Host.Outcome State Fault Refusal :=
  match s.fsm with
  | .idle => .next s
  | .s1Sync => stepSync s
  | .s2Codec => stepCodec s
  | .s3Anc => stepAnc s
  | .s4Nn => stepNn s
  | .s5Profile => stepProfile s
  | .s6SrIdx => stepSrIdx s
  | .s7Skip1 => stepSkip1 s
  | .s8Branch => stepBranch s
  | .s8aChCfg => stepChCfgA s
  | .s8bSbType => stepSbType s
  | .s8b0ObjCnt => stepObjCnt0 s
  | .s8b0ObjBr => stepObjBr0 s
  | .s8b1ChCfg => stepChCfgB s
  | .s8b1Br => stepSoundbedBr s
  | .s8b1ObjCnt => stepObjCnt1 s
  | .s8b1ObjBr => stepObjBr1 s
  | .s8cOrder => stepOrder s
  | .s9Total => stepTotal s
  | .s10Res => stepRes s
  | .s11Br => stepBr s
  | .s12Skip2 => stepSkip2 s
  | .s13Done => stepDone s
  | .sProbe => execProbe s
  | .sFlc => execFramelen s

/-- The number of FSM states (R15), more than any command passes through (R187: every command completes). -/
def fsmStates : Nat := 25

/-- Run the command in progress to its end, passing at most `n` FSM states. -/
def finishWithin : Nat → State → Host.Outcome State Fault Refusal
  | 0, s => if s.fsm = .idle then .next s else .fault .noProgress
  | n + 1, s =>
    if s.fsm = .idle then .next s
    else
      match micro s with
      | .next t => finishWithin n t
      | .fault r => .fault r
      | .refused r => .refused r

/-- Run the command in progress to its end (R187, R189). -/
def finish (s : State) : Host.Outcome State Fault Refusal := finishWithin fsmStates s

end Sys2Proof.Machine
end

