-- ==== Sys2Proof/Machine/Decoder.lean ====
section
/-!
DEFINITION. The command DECODE over any window (R189): the grammar from its start to its end.
-/

namespace Sys2Proof.Machine

/-- `decode` (R189): start the decode and run the state machine until the command has ended. -/
def execDecode (s : State) : Host.Outcome State Fault Refusal := finish s.startDecode

end Sys2Proof.Machine
end

