-- ==== Sys2Proof/Machine/Headers.lean ====
section
/-!
DEFINITION. The header formats as instructions: what DECODE does with a header of each format, in the big-step form:
the values of R144 with the register pattern of R22, after the checks in the order and with the cursor positions of
R145. That this agrees with the grammar run state by state (D26) is a statement for the provers.
-/

namespace Sys2Proof.Machine

/-- A decode that fails with cause `c` when the cursor stands at `p` (R145, R212). -/
def State.failAt (s : State) (p : Nat) (c : Cause) : Host.Outcome State Fault Refusal :=
  failWith { s.startDecode with pos := BitVec.ofNat 7 p } c

/-- A decode that succeeds with the cursor at `p` and the record `r`, whose total bitrate is `b` and rate `fs`: the
frame length is that of the record (R142, R144). -/
def State.succeedAt (s : State) (p : Nat) (r : Record) (b : BitVec 64) (fs : BitVec 32) :
    Host.Outcome State Fault Refusal :=
  .next { s.startDecode with pos := BitVec.ofNat 7 p, record := r, frameBytes := some (frameLenBits b fs) }.complete

/-- An indexer's answer at cursor position `p`. -/
def State.entryAt {α : Type} (s : State) (p : Nat) (e : Except Cause α) (k : α → Host.Outcome State Fault Refusal) :
    Host.Outcome State Fault Refusal :=
  match e with
  | .ok v => k v
  | .error c => s.failAt p c

/-- The registers that every format writes with the same meaning (R22, first row): a header of the format has passed
the checks of steps 1 to 3 by its fixed fields. -/
def Record.common (nn profile : BitVec 3) (sr : BitVec 4) (rate : BitVec 32) : Record :=
  { Record.empty with
    syncWord := some Config.syncWord, codecId := some Config.codecLossy, ancillaryDataFlag := some 0
    neuralNetworkType := some nn, codingProfile := some profile
    samplingRateIndex := some sr, samplingRate := some rate }

/-- The registers of steps 9 and 10 (R138, R139), which every format writes. -/
def Record.withTail (r : Record) (channels objects : BitVec 8) (res : BitVec 2) (e : Config.ResEntry) : Record :=
  { r with
    channelCount := some channels, objectCount := some objects
    totalChannelCount := some (totalChannels channels objects)
    resolutionIndex := some res, resolutionBits := some e.bits, sampleFormat := some e.fmt }

/-- Steps 4 to 6 of every format (R124 to R126): the neural-network check and the sampling rate. -/
def State.prefixThen (s : State) (nn : BitVec 3) (sr : BitVec 4)
    (k : BitVec 32 → Host.Outcome State Fault Refusal) : Host.Outcome State Fault Refusal :=
  if nnOk s.params nn then s.entryAt 27 (srate s.params sr) k else s.failAt 20 .nn

/-- `hdr.chb` (R62, R144, R145). The checksums and the unread bits have no influence (R72). -/
def execChb (nn : BitVec 3) (sr : BitVec 4) (cc : BitVec 7) (res : BitVec 2) (br : BitVec 4) (s : State) :
    Host.Outcome State Fault Refusal :=
  s.prefixThen nn sr fun rate =>
  s.entryAt 42 (chcfg s.params cc) fun channels =>
  s.entryAt 44 (resolution s.params res) fun e =>
  s.entryAt 48 (ladder s.params cc.toNat br .br) fun b =>
  s.succeedAt 56
    { (Record.common nn 0 sr rate).withTail channels 0 res e with
      contentType := some .channelBased, channelConfigIndex := some cc, bitrateIndex := some br
      totalBitrate := some (ladderBitrate b) }
    (ladderBitrate b) rate

/-- `hdr.obj` (R63, R144, R145). -/
def execObj (nn : BitVec 3) (sr : BitVec 4) (oc : BitVec 7) (obr : BitVec 4) (res : BitVec 2) (s : State) :
    Host.Outcome State Fault Refusal :=
  s.prefixThen nn sr fun rate =>
  s.entryAt 48 (ladder s.params 0 obr .objBr) fun b =>
  s.entryAt 50 (resolution s.params res) fun e =>
  s.succeedAt 58
    { (Record.common nn 1 sr rate).withTail 0 (objectCountOf oc) res e with
      contentType := some .objectBased, soundbedType := some 0, perObjectBitrateIndex := some obr
      totalBitrate := some (objectBitrate b (objectCountOf oc)) }
    (objectBitrate b (objectCountOf oc)) rate

/-- `hdr.mix` (R64, R144, R145). -/
def execMix (nn : BitVec 3) (sr : BitVec 4) (cc : BitVec 7) (br : BitVec 4) (oc : BitVec 7) (obr : BitVec 4)
    (res : BitVec 2) (s : State) : Host.Outcome State Fault Refusal :=
  s.prefixThen nn sr fun rate =>
  s.entryAt 44 (chcfg s.params cc) fun channels =>
  s.entryAt 48 (ladder s.params cc.toNat br .br) fun b =>
  s.entryAt 59 (ladder s.params 0 obr .objBr) fun ob =>
  s.entryAt 61 (resolution s.params res) fun e =>
  s.succeedAt 69
    { (Record.common nn 1 sr rate).withTail channels (objectCountOf oc) res e with
      contentType := some .channelObject, soundbedType := some 1, channelConfigIndex := some cc
      bitrateIndex := some br, perObjectBitrateIndex := some obr
      totalBitrate := some (mixBitrate (ladderBitrate b) ob (objectCountOf oc)) }
    (mixBitrate (ladderBitrate b) ob (objectCountOf oc)) rate

/-- `hdr.hoa` (R65, R144, R145). -/
def execHoa (nn : BitVec 3) (sr : BitVec 4) (ho : BitVec 4) (res : BitVec 2) (br : BitVec 4) (s : State) :
    Host.Outcome State Fault Refusal :=
  s.prefixThen nn sr fun rate =>
  s.entryAt 39 (hoaSlot s.params ho) fun h =>
  s.entryAt 41 (resolution s.params res) fun e =>
  s.entryAt 45 (ladder s.params h.slot.toNat br .br) fun b =>
  s.succeedAt 53
    { (Record.common nn 2 sr rate).withTail h.channels 0 res e with
      contentType := some .ambisonic, channelConfigIndex := some h.slot, bitrateIndex := some br
      ambisonicOrder := some h.order, totalBitrate := some (ladderBitrate b) }
    (ladderBitrate b) rate

end Sys2Proof.Machine
end

