-- ==== Sys2Proof/Machine/Dispatch.lean ====
section
/-!
DEFINITION. One arm per instruction, each one direct call of its meaning.
-/

namespace Sys2Proof.Machine

/-- What an instruction does. A command reads the latched operands; a header carries its own fields. -/
def exec (i : Instr) (s : State) : Host.Outcome State Fault Refusal :=
  match i with
  | .chb nn sr _ cc res br _ _ => Sys2Proof.Machine.execChb nn sr cc res br s
  | .obj nn sr _ oc obr res _ _ => Sys2Proof.Machine.execObj nn sr oc obr res s
  | .mix nn sr _ cc br oc obr res _ _ => Sys2Proof.Machine.execMix nn sr cc br oc obr res s
  | .hoa nn sr _ ho res br _ _ => Sys2Proof.Machine.execHoa nn sr ho res br s
  | .nop => Sys2Proof.Machine.execNop s
  | .probe => Sys2Proof.Machine.execProbe s
  | .decode => Sys2Proof.Machine.execDecode s
  | .framelen => Sys2Proof.Machine.execFramelen s

end Sys2Proof.Machine
end

