-- ==== Sys2Proof/Machine/Clock.lean ====
section
/-!
DEFINITION. One clock edge: what the host drives (log 4), the instruction that a start edge fetches, and what the block
does (R186, R187, R191, R240, R241).
-/

namespace Sys2Proof.Machine

/-- The input ports at the coming edge: the first sample, or those of a host that does nothing. -/
def State.port (s : State) : PortSample := s.inputs.head?.getD PortSample.quiet

/-- The edge is over: the sample is used up and the edge counted (model's own fields). -/
def State.advance (s : State) : State := { s with inputs := s.inputs.tail, tick := s.tick + 1 }

/-- A command starts at this edge (R186): `start = 1`, `rst = 0` and `STATUS != BUSY`; while BUSY it is ignored (R191). -/
def starts (p : PortSample) (s : State) : Bool := !p.rst && p.start && s.status != .busy

/-- The instruction that the ports present: the command, and for DECODE the header format of the window, if it has
one (INDEX.md: the instruction word is the window). -/
def fetch (p : PortSample) : Instr :=
  match decodeCommand p.cmd with
  | .decode =>
    match decodeWindow p.win with
    | .ok i => i
    | .error _ => .decode
  | i => i

/-- The start edge (R186): the command is started, and at pace `command` it is also completed, as one transition from
the latched inputs to the results (R187). -/
def startEdge (p : PortSample) (s : State) : Host.Outcome State Fault Refusal :=
  match p.pace with
  | .command => exec (fetch p) (s.begin p)
  | .state => .next (s.begin p)
  | .hold => .next (s.begin p)

/-- An edge at which no command starts: nothing in `S_IDLE` (R186), else the command in progress gets on as far as
`pace` says (R187, U13). -/
def runEdge (p : PortSample) (s : State) : Host.Outcome State Fault Refusal :=
  match p.pace with
  | .hold => .next s
  | .state => micro s
  | .command => finish s

/-- One clock edge; reset wins (R240). Before the first reset the state stays unspecified, and a start is refused: the host
must reset the block before its first command (R241, U12). -/
def clockEdge (s : State) : Host.Outcome State Fault Refusal :=
  let p := s.port
  let s' := s.advance
  if p.rst then .next s'.applyReset
  else if s.resetDone then (if starts p s then startEdge p s' else runEdge p s')
  else if p.start then .refused .commandBeforeReset
  else .next s'.unspecified

/-- The ports of a host that starts command `c` with window `w` and takes it as one transition. DESIGN CHOICE (log 17):
`fl_b` and `fl_fs`, which PROBE and DECODE do not use but every start latches (R13), are driven with 0; R195 does not say
what a host drives there. -/
def PortSample.request (c : BitVec 2) (w : Window) : PortSample :=
  { PortSample.quiet with start := true, cmd := c, win := w, pace := .command }

/-- The ports of a host that resets the block (R240); the ports that a reset edge does not use are those of a quiet edge
(DESIGN CHOICE, log 17). -/
def PortSample.reset : PortSample := { PortSample.quiet with rst := true }

/-- The sample that presents the table's bits (log 12, log 13): a header by a DECODE of its window, a command by its
code over a window of zeros (DESIGN CHOICE, log 13). -/
def tableSample (nbits w : Nat) : PortSample :=
  if nbits = 72 then PortSample.request 2 (BitVec.ofNat 72 w) else PortSample.request (BitVec.ofNat 2 w) 0

/-- The state with that sample at the coming edge; a command in progress is taken as ended, since a start is ignored
while BUSY (R191), and the block as reset, since a start is refused before that (R241). -/
def State.present (s : State) (p : PortSample) : State :=
  { s with inputs := p :: s.inputs, status := if s.status = .busy then .idle else s.status,
           fsm := .idle, resetDone := true }

end Sys2Proof.Machine
end

