-- ==== Sys2Proof/Machine/Step.lean ====
section
/-!
DEFINITION. The step of the machine: one clock edge.
-/

namespace Sys2Proof.Machine

/-- One step is one clock edge (R186, R187, R240). -/
def step (s : State) : Host.Outcome State Fault Refusal := clockEdge s

/-- The state in which the next step fetches and runs the instruction with the table's bits `w` (log 13). -/
def State.withFetchWord (s : State) (nbits w : Nat) : State := s.present (tableSample nbits w)

end Sys2Proof.Machine
end

