-- ==== Sys2Proof/Machine/Ports.lean ====
section
/-!
DEFINITION. The output ports (R12): what the host sees of the state. While BUSY every port but `status` shows any value
(R244, U14), and so does the port of a register that holds no value (U3, U4): the free value of log 5.
-/

namespace Sys2Proof.Machine

/-- The port of register `r`, whose content is `o`. -/
def State.shown (s : State) (r : Config.Reg) {n : Nat} (o : Option (BitVec n)) : BitVec n :=
  if s.status = .busy then s.floating r n else s.readReg r o

/-- The output ports `status`, `probe_hit`, `frame_bytes` and `rec_*` (R12, R20). -/
structure OutPorts where
  status                   : BitVec 2
  probeHit                 : BitVec 1
  frameBytes               : BitVec 64
  recSyncWord              : BitVec 12
  recCodecId               : BitVec 4
  recAncillaryDataFlag     : BitVec 1
  recNeuralNetworkType     : BitVec 3
  recCodingProfile         : BitVec 3
  recSamplingRateIndex     : BitVec 4
  recSamplingRate          : BitVec 32
  recContentType           : BitVec 2
  recSoundbedType          : BitVec 2
  recChannelConfigIndex    : BitVec 7
  recChannelCount          : BitVec 8
  recObjectCount           : BitVec 8
  recTotalChannelCount     : BitVec 9
  recBitrateIndex          : BitVec 4
  recPerObjectBitrateIndex : BitVec 4
  recTotalBitrate          : BitVec 64
  recResolutionIndex       : BitVec 2
  recResolutionBits        : BitVec 8
  recSampleFormat          : BitVec 8
  recAmbisonicOrder        : BitVec 4
  deriving DecidableEq, Repr

/-- What the ports show in state `s`. -/
def State.outputs (s : State) : OutPorts :=
  { status := s.status.code
    probeHit := s.shown .probeHit (some s.probeHit)
    frameBytes := s.shown .frameBytes s.frameBytes
    recSyncWord := s.shown .syncWord s.record.syncWord
    recCodecId := s.shown .codecId s.record.codecId
    recAncillaryDataFlag := s.shown .ancillaryDataFlag s.record.ancillaryDataFlag
    recNeuralNetworkType := s.shown .neuralNetworkType s.record.neuralNetworkType
    recCodingProfile := s.shown .codingProfile s.record.codingProfile
    recSamplingRateIndex := s.shown .samplingRateIndex s.record.samplingRateIndex
    recSamplingRate := s.shown .samplingRate s.record.samplingRate
    recContentType := s.shown .contentType (s.record.contentType.map ContentType.code)
    recSoundbedType := s.shown .soundbedType s.record.soundbedType
    recChannelConfigIndex := s.shown .channelConfigIndex s.record.channelConfigIndex
    recChannelCount := s.shown .channelCount s.record.channelCount
    recObjectCount := s.shown .objectCount s.record.objectCount
    recTotalChannelCount := s.shown .totalChannelCount s.record.totalChannelCount
    recBitrateIndex := s.shown .bitrateIndex s.record.bitrateIndex
    recPerObjectBitrateIndex := s.shown .perObjectBitrateIndex s.record.perObjectBitrateIndex
    recTotalBitrate := s.shown .totalBitrate s.record.totalBitrate
    recResolutionIndex := s.shown .resolutionIndex s.record.resolutionIndex
    recResolutionBits := s.shown .resolutionBits s.record.resolutionBits
    recSampleFormat := s.shown .sampleFormat s.record.sampleFormat
    recAmbisonicOrder := s.shown .ambisonicOrder s.record.ambisonicOrder }

end Sys2Proof.Machine
end

