-- ==== Sys2Proof/Machine/Framing.lean ====
section
/-!
DEFINITION. The host around the block (R192, R193, R195 to R204): how it issues a command and waits, the interactions
of R195, the seek-back that orders them (R199), how it goes through a stream from header to header, and how it maps
failures. The host is outside the block (R10): its byte source stands beside the state of the block in `Driver` and is
no field of State (log 17).
-/

namespace Sys2Proof.Machine

/-- `HDR_IN_LEN` (R2, D22): whether the byte count of a frame includes the 9 header bytes. -/
inductive HdrInLen where
  | excluded | included
  deriving DecidableEq, Repr

/-- The default of `HDR_IN_LEN` (R2, D22). -/
def defaultHdrInLen : HdrInLen := .excluded

/-- The number of bytes of an emitted frame whose header gave `frameBytes` (R200). -/
def frameExtent (m : HdrInLen) (frameBytes : Nat) : Nat :=
  match m with
  | .excluded => Config.headerBytes + frameBytes
  | .included => frameBytes

/-- The offset of the next header after a frame at `a` (R200). -/
def nextHeader (m : HdrInLen) (a frameBytes : Nat) : Nat := a + frameExtent m frameBytes

/-- The stream-level parameters (R192), read at the ports. -/
structure StreamParams where
  samplingRate   : BitVec 32
  totalChannels  : BitVec 9
  sampleFormat   : BitVec 8
  resolutionBits : BitVec 8
  bitrate        : BitVec 64
  frameSamples   : Nat
  deriving DecidableEq, Repr

/-- R192. -/
def OutPorts.streamParams (o : OutPorts) : StreamParams :=
  { samplingRate := o.recSamplingRate, totalChannels := o.recTotalChannelCount, sampleFormat := o.recSampleFormat
    resolutionBits := o.recResolutionBits, bitrate := o.recTotalBitrate, frameSamples := Config.frameSamples }

/-- The registers the host builds the side record from (R193). Its layout and the conversion of the bitrate to kbps are
not in the spec (N11, N14), so the bitrate stands here in bits per second. -/
structure SideRecord where
  codecId            : BitVec 4
  samplingRateIndex  : BitVec 4
  neuralNetworkType  : BitVec 3
  contentType        : BitVec 2
  channelConfigIndex : BitVec 7
  objectCount        : BitVec 8
  ambisonicOrder     : BitVec 4
  resolutionIndex    : BitVec 2
  totalBitrate       : BitVec 64
  deriving DecidableEq, Repr

/-- R193. -/
def OutPorts.sideRecord (o : OutPorts) : SideRecord :=
  { codecId := o.recCodecId, samplingRateIndex := o.recSamplingRateIndex, neuralNetworkType := o.recNeuralNetworkType
    contentType := o.recContentType, channelConfigIndex := o.recChannelConfigIndex, objectCount := o.recObjectCount
    ambisonicOrder := o.recAmbisonicOrder, resolutionIndex := o.recResolutionIndex
    totalBitrate := o.recTotalBitrate }

/-! ## The byte source -/

/-- The host's byte source: its bytes and its current position (R10, R199). -/
structure Source where
  bytes : List Byte
  pos   : Nat
  deriving DecidableEq, Repr

/-- Read exactly `n` bytes; none where fewer are left (R197). -/
def Source.read (src : Source) (n : Nat) : Option (List Byte × Source) :=
  let bs := (src.bytes.drop src.pos).take n
  if bs.length = n then some (bs, { src with pos := src.pos + n }) else none

/-- Seek back by the `n` bytes that were read (R199). -/
def Source.seekBack (src : Source) (n : Nat) : Source := { src with pos := src.pos - n }

/-- Read the nine bytes of a header as a window (R41, R196). -/
def Source.readHeader (src : Source) : Option (Window × Source) :=
  match src.read Config.headerBytes with
  | some (bs, src') => (windowOfBytes bs).map fun w => (w, src')
  | none => none

/-- The host's byte source and the block. -/
structure Driver where
  source : Source
  block  : State
  deriving DecidableEq, Repr

/-! ## Issuing a command -/

/-- Go on with the next state, if there is one. -/
def andThen (o : Host.Outcome State Fault Refusal) (k : State → Host.Outcome State Fault Refusal) :
    Host.Outcome State Fault Refusal :=
  match o with
  | .next t => k t
  | .fault r => .fault r
  | .refused r => .refused r

/-- The host waits until `status` is not BUSY (R195, R244), with no start at the ports; the edges that this takes are one
edge at pace `command` (log 11), and the ports that they do not use are 0 (DESIGN CHOICE, log 17). -/
def awaitDone (s : State) : Host.Outcome State Fault Refusal :=
  if s.status = .busy then step { s with inputs := [{ PortSample.quiet with pace := .command }] } else .next s

/-- The host resets the block, after power-up before its first command (R241, R242) or at any time (R240). -/
def resetBlock (s : State) : Host.Outcome State Fault Refusal := step { s with inputs := [PortSample.reset] }

/-- The host issues one command (R195, R204): it never starts one while BUSY (U5), and it reads no result before the
command has ended. -/
def issue (p : PortSample) (s : State) : Host.Outcome State Fault Refusal :=
  andThen (awaitDone s) fun t => andThen (step { t with inputs := [p] }) awaitDone

/-- The ports of a FRAMELEN with its operands (R190, R195). DESIGN CHOICE (log 17): `win`, which FRAMELEN does not use but
every start latches (R13), is driven with 0; R195 does not say what a host drives there. -/
def PortSample.framelen (b : BitVec 64) (fs : BitVec 32) : PortSample :=
  { PortSample.request 3 0 with flB := b, flFs := fs }

/-- How an interaction of the host ends. -/
inductive HostResult where
  /-- A probe, with `PROBE_HIT`; no hit is no error (R195). -/
  | probed (hit : Bool)
  /-- The stream is open; the byte source is back at the header (R196, R199). -/
  | opened (p : StreamParams) (side : SideRecord)
  /-- A frame was read: its bytes and the offset of the next header (R198, R200). -/
  | frame (bytes : List Byte) (next : Nat)
  /-- The frame length of a bitrate and a rate (R190, R195). -/
  | frameLength (n : BitVec 64)
  /-- The operands of a frame length alone were outside its domain, which the host must keep to (R195). -/
  | outsideDomain
  /-- Fewer bytes than requested (R197); the block issued no failure. -/
  | truncated
  /-- No more frames: truncation at a frame boundary, the clean end of the stream (R201). -/
  | endOfStream
  /-- A malformed header at stream open: an unrecoverable open failure (R201). -/
  | openFailed
  /-- A malformed header on a frame: unrecoverable for the stream, no resynchronisation (R201, R247). -/
  | unrecoverable
  /-- The host stopped by its own choice (R204). -/
  | stopped
  /-- The block gave no next state or did not complete; no state after a reset leads here (R241). -/
  | blockStopped
  deriving DecidableEq, Repr

/-- What the host concludes from the `status` port of a command that has ended. -/
def OutPorts.conclude (o : OutPorts) (ok invalid : HostResult) : HostResult :=
  if o.status = Status.code .ok then ok
  else if o.status = Status.code .invalid then invalid
  else .blockStopped

/-! ## The interactions (R195) -/

/-- Probe (R195, R188): the host peeks the first two bytes of the prefix and seeks back (R199); `rest` is what it drives
on the seven other bytes of the window, which the block ignores. -/
def probeStream (rest : BitVec 56) (d : Driver) : HostResult × Driver :=
  match d.source.read 2 with
  | some ([b0, b1], src) =>
    match issue (PortSample.request 1 (b0 ++ b1 ++ rest)) d.block with
    | .next t => (t.outputs.conclude (.probed (t.outputs.probeHit == 1)) .blockStopped, ⟨src.seekBack 2, t⟩)
    | .fault _ => (.blockStopped, d)
    | .refused _ => (.blockStopped, d)
  | _ => (.truncated, d)

/-- Stream open (R195, R196): read the nine header bytes, decode, expose the parameters, and seek back to the start of
that header (R199). A short read is truncation and issues no command (R197). -/
def openStream (d : Driver) : HostResult × Driver :=
  match d.source.readHeader with
  | none => (.truncated, d)
  | some (w, src) =>
    match issue (PortSample.request 2 w) d.block with
    | .next t =>
      (t.outputs.conclude (.opened t.outputs.streamParams t.outputs.sideRecord) .openFailed,
        ⟨src.seekBack Config.headerBytes, t⟩)
    | .fault _ => (.blockStopped, d)
    | .refused _ => (.blockStopped, d)

/-- The bytes of the frame whose header, the window `w`, has just been read and gave `frameBytes` (R198, R200): the
header followed by that many payload bytes, or that many bytes from the start of the header after a seek-back. -/
def Source.readRest (src : Source) (m : HdrInLen) (w : Window) (frameBytes : Nat) : Option (List Byte × Source) :=
  match m with
  | .excluded => (src.read frameBytes).map fun r => (windowBytesOf w ++ r.1, r.2)
  | .included => (src.seekBack Config.headerBytes).read frameBytes

/-- Per-frame read (R195, R198): read the header at the current frame start, decode it, and read the frame. Too few bytes
for the header is the clean end of the stream, too few for the frame is truncation (R197, R201). -/
def readFrame (m : HdrInLen) (d : Driver) : HostResult × Driver :=
  match d.source.readHeader with
  | none => (.endOfStream, d)
  | some (w, src) =>
    match issue (PortSample.request 2 w) d.block with
    | .next t =>
      if t.outputs.status = Status.code .ok then
        match src.readRest m w t.outputs.frameBytes.toNat with
        | some (bytes, src') => (.frame bytes src'.pos, ⟨src', t⟩)
        | none => (.truncated, ⟨src, t⟩)
      else (t.outputs.conclude .blockStopped .unrecoverable, ⟨src, t⟩)
    | .fault _ => (.blockStopped, d)
    | .refused _ => (.blockStopped, d)

/-- Frame length alone (R195): FRAMELEN of two operands, which the host keeps inside the domain. -/
def lengthAlone (b : BitVec 64) (fs : BitVec 32) (d : Driver) : HostResult × Driver :=
  match issue (PortSample.framelen b fs) d.block with
  | .next t => (t.outputs.conclude (.frameLength t.outputs.frameBytes) .outsideDomain, { d with block := t })
  | .fault _ => (.blockStopped, d)
  | .refused _ => (.blockStopped, d)

/-! ## A stream -/

/-- Walk a stream from the header at the current position, at most `n` frames: the frames read and how the walk ended. It
ends at the first failure and never tries a header again (R191, R198, R201, R204). -/
def walk (m : HdrInLen) : Nat → Driver → List (List Byte) × HostResult × Driver
  | 0, d => ([], .stopped, d)
  | n + 1, d =>
    match readFrame m d with
    | (.frame bytes _, d') =>
      let (frames, r) := walk m n d'
      (bytes :: frames, r)
    | r => ([], r)

/-- The host takes a stream (R195 to R201): probe, then open, then frame by frame. Both the probe and the open seek back by
what they read (R199), so the first frame starts at the header that was opened. `accept` is how the host combines the
probe hit with its file-extension hint (R202); `m` is `HDR_IN_LEN`, by default excluded (R200, D22, log 17). -/
def playStream (rest : BitVec 56) (accept : Bool → Bool) (n : Nat) (d : Driver) (m : HdrInLen := defaultHdrInLen) :
    List (List Byte) × HostResult × Driver :=
  match probeStream rest d with
  | (.probed hit, d1) =>
    if accept hit then
      match openStream d1 with
      | (.opened _ _, d2) => walk m n d2
      | r => ([], r)
    else ([], .stopped, d1)
  | r => ([], r)

end Sys2Proof.Machine
end

