-- ==== Sys2Proof/WellFormed.lean ====
section
/-!
DEFINITION. Which instructions are well formed: a header is when every field has a legal value (R69 to R71), which
depends on the parameters; a command always is. An ill-formed header still runs: it ends INVALID (R69).
-/

namespace Sys2Proof

open Machine

/-- `sampling_rate_index` is 0..8 (R69). -/
def srLegal (sr : BitVec 4) : Bool := decide (sr.toNat < 9)

/-- `channel_config_index` is 0..3 or 6..13 (R69, R70). -/
def ccLegal (cc : BitVec 7) : Bool := decide (cc.toNat < 14) && cc != 4#7 && cc != 5#7

/-- `resolution_index` is 0..2 (R69). -/
def resLegal (res : BitVec 2) : Bool := decide (res.toNat < 3)

/-- The raw ambisonic order is 0..2 (R69). -/
def hoLegal (ho : BitVec 4) : Bool := decide (ho.toNat < 3)

/-- A bitrate index is below the live length of ladder `c` (R69). -/
def brLegal (P : Config.Params) (c : Nat) (br : BitVec 4) : Bool := decide (br.toNat < live P c)

/-- Every field of the instruction has a legal value (R62 to R65, R69); the raw object count has no illegal one
(R71). -/
def Instr.wellFormed (P : Config.Params) : Instr → Bool
  | .chb nn sr _ cc res br _ _ => nnOk P nn && srLegal sr && ccLegal cc && resLegal res && brLegal P cc.toNat br
  | .obj nn sr _ _ obr res _ _ => nnOk P nn && srLegal sr && brLegal P 0 obr && resLegal res
  | .mix nn sr _ cc br _ obr res _ _ =>
      nnOk P nn && srLegal sr && ccLegal cc && brLegal P cc.toNat br && brLegal P 0 obr && resLegal res
  | .hoa nn sr _ ho res br _ _ =>
      nnOk P nn && srLegal sr && hoLegal ho && resLegal res && brLegal P (11 + ho.toNat) br
  | .nop => true
  | .probe => true
  | .decode => true
  | .framelen => true

end Sys2Proof
end

