-- ==== Sys2Proof/Safety.lean ====
section
/-!
DEFINITION. What holds in every state of a run: the invariant `Inv` of the block between clock edges, and what a legal
record is.
-/

namespace Sys2Proof.Machine

/-- The register holds a value that meets `p`. -/
def holds {α : Type} (o : Option α) (p : α → Bool) : Bool := o.any p

/-- A channel configuration that CHCFG accepts (R104). -/
def cfgOk (c : BitVec 7) : Bool := ccLegal c

/-- A rate and a bitrate that the frame length is defined for, as every decode has them (R142, R164). -/
def rateOk (fs : BitVec 32) : Bool := fs != 0#32
def bitrateOk (b : BitVec 64) : Bool := b != 0#64 && decide (b.toNat < 2 ^ 40)

/-- The cursor positions at which a grammar state is entered (R61 to R66), by the format that the record tells. -/
def Fsm.entryPos (f : Fsm) (r : Record) : Nat :=
  match f with
  | .idle | .sProbe | .sFlc | .s1Sync => 0
  | .s2Codec => 12
  | .s3Anc => 16
  | .s4Nn => 17
  | .s5Profile => 20
  | .s6SrIdx => 23
  | .s7Skip1 => 27
  | .s8Branch | .s8aChCfg | .s8bSbType | .s8cOrder => 35
  | .s8b0ObjCnt | .s8b1ChCfg => 37
  | .s8b0ObjBr | .s8b1Br => 44
  | .s8b1ObjCnt => 48
  | .s8b1ObjBr => 55
  | .s9Total | .s10Res =>
    match r.contentType with
    | some .channelBased => 42
    | some .objectBased => 48
    | some .channelObject => 59
    | _ => 39
  | .s11Br =>
    match r.contentType with
    | some .channelBased => 44
    | some .objectBased => 50
    | some .channelObject => 61
    | _ => 41
  | .s12Skip2 =>
    match r.contentType with
    | some .channelBased => 48
    | some .objectBased => 50
    | some .channelObject => 61
    | _ => 45
  | .s13Done =>
    match r.contentType with
    | some .channelBased => 56
    | some .objectBased => 58
    | some .channelObject => 69
    | _ => 53

/-- The profile agrees with the content type that step 8 set (R22, R128 to R130, R137). -/
def Record.profileMatches (r : Record) : Bool :=
  match r.contentType with
  | some .channelBased => r.codingProfile == some 0
  | some .objectBased => r.codingProfile == some 1
  | some .channelObject => r.codingProfile == some 1
  | some .ambisonic => r.codingProfile == some 2
  | none => false

/-- Step 8 has run: the counts are there, the profile agrees with the content type, and what step 11 or step 13 will
read is there (the channel configuration outside profile 1, the total bitrate in profile 1). -/
def Record.branchDone (r : Record) : Bool :=
  r.profileMatches && r.channelCount.isSome && r.objectCount.isSome
    && (if r.codingProfile = some 1 then holds r.totalBitrate bitrateOk else holds r.channelConfigIndex cfgOk)

/-- The registers that the rest of the grammar will read hold values in their ranges. -/
def operandsReady (f : Fsm) (r : Record) (soundbed : Option (BitVec 64)) : Bool :=
  let rate := holds r.samplingRate rateOk
  let inProfile (p : BitVec 3) := rate && r.codingProfile == some p
  match f with
  | .idle | .sProbe | .sFlc => true
  | .s1Sync | .s2Codec | .s3Anc | .s4Nn | .s5Profile => r.contentType.isNone
  | .s6SrIdx => r.codingProfile.isSome && r.contentType.isNone
  | .s7Skip1 | .s8Branch => rate && r.codingProfile.isSome && r.contentType.isNone
  | .s8aChCfg => inProfile 0
  | .s8bSbType => inProfile 1
  | .s8cOrder => inProfile 2
  | .s8b0ObjCnt => inProfile 1 && r.contentType == some .objectBased
  | .s8b0ObjBr => inProfile 1 && r.contentType == some .objectBased
      && holds r.objectCount fun n => n != 0#8 && decide (n.toNat ≤ 128)
  | .s8b1ChCfg => inProfile 1 && r.contentType == some .channelObject
  | .s8b1Br => inProfile 1 && r.contentType == some .channelObject && r.channelCount.isSome
      && holds r.channelConfigIndex cfgOk
  | .s8b1ObjCnt => inProfile 1 && r.contentType == some .channelObject && r.channelCount.isSome
      && holds soundbed fun b => b != 0#64 && decide (b.toNat < 2 ^ 32)
  | .s8b1ObjBr => inProfile 1 && r.contentType == some .channelObject && r.channelCount.isSome
      && holds soundbed (fun b => b != 0#64 && decide (b.toNat < 2 ^ 32))
      && holds r.objectCount fun n => n != 0#8 && decide (n.toNat ≤ 128)
  | .s9Total | .s10Res | .s11Br => rate && r.branchDone
  | .s12Skip2 | .s13Done => rate && r.profileMatches && holds r.totalBitrate bitrateOk

/-- The invariant of the block between clock edges: it has been reset (R241), BUSY exactly while a command is in progress (R186, R187), the
cursor inside the window (R14) and where the grammar state finds it (R66, R93), the latched command that of the state
(R29, R186), the operands of the state in their registers, and the temporary of R134 only where it lives. -/
def State.Inv (s : State) : Bool :=
  s.resetDone && ((s.status == .busy) == (s.fsm != .idle))
    && decide (s.pos.toNat ≤ windowBits)
    && (match s.fsm with
        | .idle => true
        | .sProbe => s.cmdL == 1#2
        | .sFlc => s.cmdL == 3#2
        | f => s.cmdL == 2#2 && s.pos.toNat == f.entryPos s.record && s.frameBytes.isNone)
    && operandsReady s.fsm s.record s.soundbed
    && (s.soundbed.isNone || s.fsm == .s8b1ObjCnt || s.fsm == .s8b1ObjBr)

/-! ## Words of the claims -/

/-- `FrameLen(B, fs)` as R170 writes it, over the exact rationals. -/
def frameLenExact (b fs : Nat) : Int :=
  if fs = 44100 then Int.ceil ((Int.floor ((b : Rat) / 44100 * 1024) : Rat) / 8)
  else Int.ceil ((b : Rat) / (fs : Rat) * 1024 / 8)

/-- The rate at index `i` of `SR_ROM`, if there is such an entry. -/
def rateAt (P : Config.Params) (i : BitVec 4) : Option (BitVec 32) := P.rom.sr[i.toNat]?

/-- The channel count at index `c` of `CC_ROM`. -/
def channelsAt (P : Config.Params) (c : BitVec 7) : Option (BitVec 8) := P.rom.cc[c.toNat]?

/-- The entry at index `i` of `RES_ROM`. -/
def resolutionAt (P : Config.Params) (i : BitVec 2) : Option Config.ResEntry := P.rom.res[i.toNat]?

/-- Entry `i` of ladder `c` of `LADDER_ROM`, live or not. -/
def bitrateAt (P : Config.Params) (c : Nat) (i : BitVec 4) : Option (BitVec 32) := (ladderEntries P c)[i.toNat]?

/-- The state after a header of the decoder's success (R142, R144): the cursor at `p`, the record `r`, the frame length
`n`, OK and S_IDLE, and nothing else changed. -/
def State.decoded (s : State) (p : Nat) (r : Record) (n : BitVec 64) : State :=
  { s with pos := BitVec.ofNat 7 p, record := r, frameBytes := some n, soundbed := none, status := .ok, fsm := .idle,
           cause := none }

/-- `n` clock edges, one after the other. -/
def edges : Nat → State → Host.Outcome State Fault Refusal
  | 0, s => .next s
  | n + 1, s =>
    match step s with
    | .next t => edges n t
    | .fault r => .fault r
    | .refused r => .refused r

/-- A header, as opposed to a command. -/
def isHeader : Instr → Bool
  | .chb .. => true
  | .obj .. => true
  | .mix .. => true
  | .hoa .. => true
  | .nop => false
  | .probe => false
  | .decode => false
  | .framelen => false

/-- The header with its ignored fields (checksums and unread bits, R72) set to 0. -/
def eraseIgnored : Instr → Instr
  | .chb nn sr _ cc res br _ _ => .chb nn sr 0 cc res br 0 0
  | .obj nn sr _ oc obr res _ _ => .obj nn sr 0 oc obr res 0 0
  | .mix nn sr _ cc br oc obr res _ _ => .mix nn sr 0 cc br oc obr res 0 0
  | .hoa nn sr _ ho res br _ _ => .hoa nn sr 0 ho res br 0 0
  | .nop => .nop
  | .probe => .probe
  | .decode => .decode
  | .framelen => .framelen

/-- The first failing check of a decode of window `w` and the cursor when it fails, or no cause and the consumed length
(R66, R145). The fields are read at their places in the window (R61 to R65). -/
def decodeVerdict (P : Config.Params) (w : Window) : Option Cause × Nat :=
  if memRead w 0 12 ≠ 0xFFF then (some .sync, 12)
  else if memRead w 12 4 ≠ 2 then (some .codec, 16)
  else if memRead w 16 1 ≠ 0 then (some .anc, 17)
  else if ¬ (P.nnMin ≤ memRead w 17 3 ∧ memRead w 17 3 ≤ P.nnMax) then (some .nn, 20)
  else if 9 ≤ (memRead w 23 4).toNat then (some .srIdx, 27)
  else if memRead w 20 3 = 0 then
    if ccLegal (memRead w 35 7) = false then (some .chCfg, 42)
    else if memRead w 42 2 = 3 then (some .res, 44)
    else if live P (memRead w 35 7).toNat ≤ (memRead w 44 4).toNat then (some .br, 48)
    else (none, 56)
  else if memRead w 20 3 = 1 then
    if memRead w 35 2 = 0 then
      if live P 0 ≤ (memRead w 44 4).toNat then (some .objBr, 48)
      else if memRead w 48 2 = 3 then (some .res, 50)
      else (none, 58)
    else if memRead w 35 2 = 1 then
      if ccLegal (memRead w 37 7) = false then (some .chCfg, 44)
      else if live P (memRead w 37 7).toNat ≤ (memRead w 44 4).toNat then (some .br, 48)
      else if live P 0 ≤ (memRead w 55 4).toNat then (some .objBr, 59)
      else if memRead w 59 2 = 3 then (some .res, 61)
      else (none, 69)
    else (some .soundbed, 37)
  else if memRead w 20 3 = 2 then
    if 3 ≤ (memRead w 35 4).toNat then (some .hoa, 39)
    else if memRead w 39 2 = 3 then (some .res, 41)
    else if live P (11 + (memRead w 35 4).toNat) ≤ (memRead w 41 4).toNat then (some .br, 45)
    else (none, 53)
  else (some .profile, 35)

/-- The successors of a grammar state (R121 to R142, R188, R190); S_IDLE, the end, follows every state. -/
def Fsm.successors : Fsm → List Fsm
  | .idle => [.idle]
  | .s1Sync => [.s2Codec, .idle]
  | .s2Codec => [.s3Anc, .idle]
  | .s3Anc => [.s4Nn, .idle]
  | .s4Nn => [.s5Profile, .idle]
  | .s5Profile => [.s6SrIdx]
  | .s6SrIdx => [.s7Skip1, .idle]
  | .s7Skip1 => [.s8Branch]
  | .s8Branch => [.s8aChCfg, .s8bSbType, .s8cOrder, .idle]
  | .s8aChCfg => [.s9Total, .idle]
  | .s8bSbType => [.s8b0ObjCnt, .s8b1ChCfg, .idle]
  | .s8b0ObjCnt => [.s8b0ObjBr]
  | .s8b0ObjBr => [.s9Total, .idle]
  | .s8b1ChCfg => [.s8b1Br, .idle]
  | .s8b1Br => [.s8b1ObjCnt, .idle]
  | .s8b1ObjCnt => [.s8b1ObjBr]
  | .s8b1ObjBr => [.s9Total, .idle]
  | .s8cOrder => [.s9Total, .idle]
  | .s9Total => [.s10Res]
  | .s10Res => [.s11Br, .idle]
  | .s11Br => [.s12Skip2, .idle]
  | .s12Skip2 => [.s13Done]
  | .s13Done => [.idle]
  | .sProbe => [.idle]
  | .sFlc => [.idle]

end Sys2Proof.Machine
end

