-- ==== Sys2Proof/Certificates/Slice0/Obligations.lean ====
section
/-!
DEFINITION. The statements for the provers. Each docstring names the rules of spec/ it formalises.
-/

open Sys2Proof Sys2Proof.Machine

/-! ## Encoding -/

/-- R61 to R65, R68, R185: decoding the encoding of any instruction gives it back, every operand at every value. -/
def Obligations.DecodeOfEncode : Prop :=
  ∀ i : Instr, decodeEncoded (encode i) = .ok i

/-- R61 to R65: a window that decodes to a header is the encoding of that header, so no window bit is dropped. -/
def Obligations.EncodeOfDecodedWindow : Prop :=
  ∀ (w : Window) (i : Instr), decodeWindow w = .ok i → isHeader i = true ∧ encode i = .window w

/-- R67: a window has a format exactly if `(w AND mask) = match` for the row of the format; the rows select the format
only, so a window of the format whose fields are not all legal is still INVALID. -/
def Obligations.FormatSelectedByMaskAndMatch : Prop :=
  ∀ w : Window,
    ((∃ nn sr ck1 cc res br ck2 pad, decodeWindow w = .ok (.chb nn sr ck1 cc res br ck2 pad))
        ↔ w &&& 0xFFFF8E000000000000#72 = 0xFFF200000000000000#72)
    ∧ ((∃ nn sr ck1 oc obr res ck2 pad, decodeWindow w = .ok (.obj nn sr ck1 oc obr res ck2 pad))
        ↔ w &&& 0xFFFF8E001800000000#72 = 0xFFF202000000000000#72)
    ∧ ((∃ nn sr ck1 cc br oc obr res ck2 pad, decodeWindow w = .ok (.mix nn sr ck1 cc br oc obr res ck2 pad))
        ↔ w &&& 0xFFFF8E001800000000#72 = 0xFFF202000800000000#72)
    ∧ ((∃ nn sr ck1 ho res br ck2 pad, decodeWindow w = .ok (.hoa nn sr ck1 ho res br ck2 pad))
        ↔ w &&& 0xFFFF8E000000000000#72 = 0xFFF204000000000000#72)
    ∧ ∀ (s : State) (i : Instr), s.w = w → decodeWindow w = .ok i → i.wellFormed s.params = false →
        ∃ t, exec .decode s = .next t ∧ t.status = .invalid

/-- R61 to R65, R185: words written out bit by bit from the encoding tables, one of each family. -/
def Obligations.WrittenWordsDecode : Prop :=
  decodeWindow 0b111111111111001000010000011101001010000000011000010110101111111111111111#72
      = .ok (.chb 1 3 0xA5 0 1 8 0x5A 0xFFFF)
  ∧ decodeWindow 0b111111111111001000000010010000000000000000110100100000000000000000000000#72 = .ok (.obj 0 2 0 3 4 2 0 0)
  ∧ decodeWindow 0b111111111111001000010011000000000000100010100100111111110111011111111111#72
      = .ok (.mix 1 8 0 10 4 127 11 2 0xFF 7)
  ∧ decodeWindow 0b111111111111001000000100010000000000010010101000000000000000000000000000#72 = .ok (.hoa 0 2 0 2 1 5 0 0)
  ∧ decodeCommand 0b01#2 = .probe

/-! ## The window -/

/-- R46: reading `n` bits and then `m` bits is reading `n + m` bits. -/
def Obligations.MemReadSplits : Prop :=
  ∀ (w : Window) (p n m : Nat), 1 ≤ n → 1 ≤ m → n + m ≤ 32 → p + n + m ≤ 72 →
    (memRead w p (n + m)).toNat = (memRead w p n).toNat * 2 ^ m + (memRead w (p + n) m).toNat

/-- R44: bit `8 * k + j` of the stream is bit `7 - j` of byte `k`, byte `k` of nine bytes is the `k`-th of them, and a
field that crosses from byte `k` to byte `k + 1` takes its high bits from byte `k`. -/
def Obligations.BytesInAscendingOrderMsbFirst : Prop :=
  (∀ (w : Window) (k j : Nat), k < 9 → j < 8 →
    (memRead w (8 * k + j) 1).toNat = (windowByte w k).toNat / 2 ^ (7 - j) % 2)
  ∧ (∀ b0 b1 b2 b3 b4 b5 b6 b7 b8 : Byte,
      (List.range 9).map (windowByte (windowOfNine b0 b1 b2 b3 b4 b5 b6 b7 b8)) = [b0, b1, b2, b3, b4, b5, b6, b7, b8])
  ∧ ∀ (w : Window) (k n m : Nat), k < 8 → 1 ≤ n → n ≤ 8 → 1 ≤ m → m ≤ 8 →
      (memRead w (8 * k + (8 - n)) (n + m)).toNat
        = (windowByte w k).toNat % 2 ^ n * 2 ^ m + (windowByte w (k + 1)).toNat / 2 ^ (8 - m)

/-- R45: the probe's 16-bit read is big-endian and its top 12 bits are those that step 1 of DECODE reads, so both
compare the same 12 bits. -/
def Obligations.ProbeReadsTheSyncBits : Prop :=
  ∀ w : Window,
    (probeWord w).toNat = (windowByte w 0).toNat * 256 + (windowByte w 1).toNat
    ∧ (probeWord w >>> 4).toNat = (memRead w 0 12).toNat
    ∧ probeMatches w = syncOk (memRead w 0 12)

/-! ## The cursor and the indexers -/

/-- R90, R91: inside the window READ gives the bits at the cursor and both move it by `n`, changing nothing else. -/
def Obligations.CursorReadsAndAdvances : Prop :=
  ∀ (s : State) (n : Nat), s.pos.toNat + n ≤ 72 →
    (s.advancePos n).pos.toNat = s.pos.toNat + n
    ∧ { s.advancePos n with pos := s.pos } = s
    ∧ (∀ k : BitVec n → State → Host.Outcome State Fault Refusal, 1 ≤ n → n ≤ 32 →
        withRead n s k = k (memRead s.w s.pos.toNat n) (s.advancePos n))
    ∧ (∀ k : State → Host.Outcome State Fault Refusal, withSkip n s k = k (s.advancePos n))

/-- R14, R93: no state of the grammar moves the cursor backward or past the window. -/
def Obligations.CursorMovesForward : Prop :=
  ∀ s t : State, s.pos.toNat ≤ 72 → micro s = .next t → s.pos.toNat ≤ t.pos.toNat ∧ t.pos.toNat ≤ 72

/-- R101 (a), R102: the sampling-rate indexer succeeds exactly below 9, with a non-zero rate; its ends are 192000 and
8000. -/
def Obligations.SampleRateIndexer : Prop :=
  ∀ (P : Config.Params) (i : BitVec 4),
    (i.toNat < 9 → ∃ rate, rateAt P i = some rate ∧ srate P i = .ok rate ∧ rate ≠ 0)
    ∧ (9 ≤ i.toNat → srate P i = .error .srIdx)
    ∧ srate P 0 = .ok 192000 ∧ srate P 8 = .ok 8000

/-- R101 (b), R104: the channel-configuration indexer rejects 4, 5 and everything from 14 up, and answers a count of at
least 1 for every other index. -/
def Obligations.ChannelConfigIndexer : Prop :=
  ∀ (P : Config.Params) (c : BitVec 7),
    (c.toNat = 4 ∨ c.toNat = 5 ∨ 14 ≤ c.toNat → chcfg P c = .error .chCfg)
    ∧ (c.toNat ≠ 4 → c.toNat ≠ 5 → c.toNat < 14 → ∃ n, channelsAt P c = some n ∧ chcfg P c = .ok n ∧ n ≠ 0)

/-- R105: raw order 0, 1, 2 gives order 1, 2, 3, slot 11, 12, 13 and 4, 9, 16 channels; every other raw order fails. -/
def Obligations.AmbisonicSlots : Prop :=
  ∀ (P : Config.Params) (raw : BitVec 4),
    if raw.toNat < 3 then
      ∃ h : HoaSlot, hoaSlot P raw = .ok h ∧ h.order.toNat = raw.toNat + 1 ∧ h.slot.toNat = 10 + h.order.toNat
        ∧ h.channels.toNat = (h.order.toNat + 1) ^ 2 ∧ channelsAt P h.slot = some h.channels
    else hoaSlot P raw = .error .hoa

/-- R106: `LIVE(c)` is the least `i` in 0..16 at which the ladder ends or is zero. -/
def Obligations.LiveLength : Prop :=
  ∀ (P : Config.Params) (c : Nat), c < 15 →
    (live P c = 16 ∨ (ladderEntries P c)[live P c]? = some 0)
    ∧ ∀ i < live P c, i < 16 ∧ ∃ b, (ladderEntries P c)[i]? = some b ∧ b ≠ 0

/-- R107: below the live length the ladder indexer answers the entry of the ROM, which is not zero; at and above it, the
caller's cause. By R101 (c) every entry from the live length on is zero. -/
def Obligations.LadderIndexer : Prop :=
  ∀ (P : Config.Params) (c : Nat) (i : BitVec 4) (cause : Cause), c < 15 →
    (i.toNat < live P c → ∃ b, bitrateAt P c i = some b ∧ b ≠ 0 ∧ ladder P c i cause = .ok b)
    ∧ (live P c ≤ i.toNat → bitrateAt P c i = some 0 ∧ ladder P c i cause = .error cause)

/-- R101 (d), R108: the resolution indexer answers 8, 16 and 24 bits and fails at 3. -/
def Obligations.ResolutionIndexer : Prop :=
  ∀ (P : Config.Params) (i : BitVec 2),
    (i.toNat < 3 → ∃ e, resolutionAt P i = some e ∧ resolution P i = .ok e ∧ e.bits.toNat = 8 * (i.toNat + 1))
    ∧ (i.toNat = 3 → resolution P i = .error .res)

/-! ## The headers: results and completion (R22, R66, R144) -/

/-- R62, R22, R66, R144: a legal channel-based header completes with the registers of its column. -/
def Obligations.ChbCompletes : Prop :=
  ∀ (s : State) (nn : BitVec 3) (sr : BitVec 4) (ck1 : BitVec 8) (cc : BitVec 7) (res : BitVec 2) (br : BitVec 4)
    (ck2 : BitVec 8) (pad : BitVec 16) (rate : BitVec 32) (ch : BitVec 8) (e : Config.ResEntry) (b : BitVec 32),
    s.params.nnMin ≤ nn → nn ≤ s.params.nnMax → rateAt s.params sr = some rate → ccLegal cc = true →
    channelsAt s.params cc = some ch → resolutionAt s.params res = some e → br.toNat < live s.params cc.toNat →
    bitrateAt s.params cc.toNat br = some b →
    exec (.chb nn sr ck1 cc res br ck2 pad) s = .next (s.decoded 56
      { syncWord := some 0xFFF, codecId := some 2, ancillaryDataFlag := some 0, neuralNetworkType := some nn,
        codingProfile := some 0, samplingRateIndex := some sr, samplingRate := some rate,
        contentType := some .channelBased, soundbedType := none, channelConfigIndex := some cc,
        channelCount := some ch, objectCount := some 0, totalChannelCount := some (BitVec.ofNat 9 ch.toNat),
        bitrateIndex := some br, perObjectBitrateIndex := none, totalBitrate := some (BitVec.ofNat 64 b.toNat),
        resolutionIndex := some res, resolutionBits := some e.bits, sampleFormat := some e.fmt, ambisonicOrder := none }
      (BitVec.ofNat 64 (frameLen b.toNat rate.toNat)))

/-- R63, R22, R66, R144: a legal object-based header completes with the registers of its column; every raw object count
is legal (R71). -/
def Obligations.ObjCompletes : Prop :=
  ∀ (s : State) (nn : BitVec 3) (sr : BitVec 4) (ck1 : BitVec 8) (oc : BitVec 7) (obr : BitVec 4) (res : BitVec 2)
    (ck2 : BitVec 8) (pad : BitVec 14) (rate : BitVec 32) (e : Config.ResEntry) (b : BitVec 32),
    s.params.nnMin ≤ nn → nn ≤ s.params.nnMax → rateAt s.params sr = some rate → obr.toNat < live s.params 0 →
    bitrateAt s.params 0 obr = some b → resolutionAt s.params res = some e →
    exec (.obj nn sr ck1 oc obr res ck2 pad) s = .next (s.decoded 58
      { syncWord := some 0xFFF, codecId := some 2, ancillaryDataFlag := some 0, neuralNetworkType := some nn,
        codingProfile := some 1, samplingRateIndex := some sr, samplingRate := some rate,
        contentType := some .objectBased, soundbedType := some 0, channelConfigIndex := none,
        channelCount := some 0, objectCount := some (BitVec.ofNat 8 (oc.toNat + 1)),
        totalChannelCount := some (BitVec.ofNat 9 (oc.toNat + 1)),
        bitrateIndex := none, perObjectBitrateIndex := some obr,
        totalBitrate := some (BitVec.ofNat 64 (b.toNat * (oc.toNat + 1))),
        resolutionIndex := some res, resolutionBits := some e.bits, sampleFormat := some e.fmt, ambisonicOrder := none }
      (BitVec.ofNat 64 (frameLen (b.toNat * (oc.toNat + 1)) rate.toNat)))

/-- R64, R22, R66, R144: a legal channel and object header completes with the registers of its column. -/
def Obligations.MixCompletes : Prop :=
  ∀ (s : State) (nn : BitVec 3) (sr : BitVec 4) (ck1 : BitVec 8) (cc : BitVec 7) (br : BitVec 4) (oc : BitVec 7)
    (obr : BitVec 4) (res : BitVec 2) (ck2 : BitVec 8) (pad : BitVec 3) (rate : BitVec 32) (ch : BitVec 8)
    (e : Config.ResEntry) (b ob : BitVec 32),
    s.params.nnMin ≤ nn → nn ≤ s.params.nnMax → rateAt s.params sr = some rate → ccLegal cc = true →
    channelsAt s.params cc = some ch → br.toNat < live s.params cc.toNat → bitrateAt s.params cc.toNat br = some b →
    obr.toNat < live s.params 0 → bitrateAt s.params 0 obr = some ob → resolutionAt s.params res = some e →
    exec (.mix nn sr ck1 cc br oc obr res ck2 pad) s = .next (s.decoded 69
      { syncWord := some 0xFFF, codecId := some 2, ancillaryDataFlag := some 0, neuralNetworkType := some nn,
        codingProfile := some 1, samplingRateIndex := some sr, samplingRate := some rate,
        contentType := some .channelObject, soundbedType := some 1, channelConfigIndex := some cc,
        channelCount := some ch, objectCount := some (BitVec.ofNat 8 (oc.toNat + 1)),
        totalChannelCount := some (BitVec.ofNat 9 (ch.toNat + (oc.toNat + 1))),
        bitrateIndex := some br, perObjectBitrateIndex := some obr,
        totalBitrate := some (BitVec.ofNat 64 (b.toNat + ob.toNat * (oc.toNat + 1))),
        resolutionIndex := some res, resolutionBits := some e.bits, sampleFormat := some e.fmt, ambisonicOrder := none }
      (BitVec.ofNat 64 (frameLen (b.toNat + ob.toNat * (oc.toNat + 1)) rate.toNat)))

/-- R65, R22, R66, R144: a legal ambisonic header completes with the registers of its column; the order is raw + 1 and
the channel count its square successor (R105). -/
def Obligations.HoaCompletes : Prop :=
  ∀ (s : State) (nn : BitVec 3) (sr : BitVec 4) (ck1 : BitVec 8) (ho : BitVec 4) (res : BitVec 2) (br : BitVec 4)
    (ck2 : BitVec 8) (pad : BitVec 19) (rate : BitVec 32) (e : Config.ResEntry) (b : BitVec 32),
    s.params.nnMin ≤ nn → nn ≤ s.params.nnMax → rateAt s.params sr = some rate → ho.toNat < 3 →
    resolutionAt s.params res = some e → br.toNat < live s.params (11 + ho.toNat) →
    bitrateAt s.params (11 + ho.toNat) br = some b →
    exec (.hoa nn sr ck1 ho res br ck2 pad) s = .next (s.decoded 53
      { syncWord := some 0xFFF, codecId := some 2, ancillaryDataFlag := some 0, neuralNetworkType := some nn,
        codingProfile := some 2, samplingRateIndex := some sr, samplingRate := some rate,
        contentType := some .ambisonic, soundbedType := none, channelConfigIndex := some (BitVec.ofNat 7 (11 + ho.toNat)),
        channelCount := some (BitVec.ofNat 8 ((ho.toNat + 2) ^ 2)), objectCount := some 0,
        totalChannelCount := some (BitVec.ofNat 9 ((ho.toNat + 2) ^ 2)),
        bitrateIndex := some br, perObjectBitrateIndex := none, totalBitrate := some (BitVec.ofNat 64 b.toNat),
        resolutionIndex := some res, resolutionBits := some e.bits, sampleFormat := some e.fmt,
        ambisonicOrder := some (BitVec.ofNat 4 (ho.toNat + 1)) }
      (BitVec.ofNat 64 (frameLen b.toNat rate.toNat)))

/-- R69, R212: a header completes OK exactly if every field is legal; else it ends INVALID. It always ends. -/
def Obligations.HeaderOkIffWellFormed : Prop :=
  ∀ (s : State) (i : Instr), isHeader i = true →
    ∃ t, exec i s = .next t ∧ t.fsm = .idle ∧ t.status = if i.wellFormed s.params then .ok else .invalid

/-! ## DECODE -/

/-- R144, R187, D26: over a window that holds a header, the state machine run to its end and the closed form of the
header give the same state. -/
def Obligations.GrammarAgreesWithClosedForm : Prop :=
  ∀ (s : State) (i : Instr), decodeWindow s.w = .ok i → exec .decode s = exec i s

/-- R145: the first check that fails, in the order of the steps, with POS at that moment; with no failing check the
decode succeeds. DECODE completes on every window. That the cause is a field, none after a success, is the model's choice
(log 6), and so is keeping the POS of a failure, which has no meaning to the host (log 14). -/
def Obligations.ChecksInOrder : Prop :=
  ∀ s : State, ∃ t, exec .decode s = .next t ∧ t.fsm = .idle ∧ t.cause = (decodeVerdict s.params s.w).1
    ∧ t.pos.toNat = (decodeVerdict s.params s.w).2
    ∧ t.status = if t.cause = none then .ok else .invalid

/-- R69: DECODE succeeds exactly on the windows that hold a legal header of one format. -/
def Obligations.DecodeOkIffLegalHeader : Prop :=
  ∀ s : State, ∃ t, exec .decode s = .next t
    ∧ (t.status = .ok ↔ ∃ i, decodeWindow s.w = .ok i ∧ i.wellFormed s.params = true)

/-- R189: a successful DECODE leaves FRAME_BYTES = FrameLen(REC.total_bitrate, REC.sampling_rate). -/
def Obligations.DecodeWritesFrameLength : Prop :=
  ∀ (s : State) (i : Instr), decodeWindow s.w = .ok i → i.wellFormed s.params = true →
    ∃ t b fs, exec .decode s = .next t ∧ t.status = .ok ∧ t.record.totalBitrate = some b ∧ t.record.samplingRate = some fs
      ∧ t.frameBytes = some (BitVec.ofNat 64 (frameLen b.toNat fs.toNat)) ∧ t.probeHit = s.probeHit

/-- R143: the counts of a successful decode. -/
def Obligations.CountsOfADecode : Prop :=
  ∀ s t : State, exec .decode s = .next t → t.status = .ok →
    ∃ ch ob tot b, t.record.channelCount = some ch ∧ t.record.objectCount = some ob
      ∧ t.record.totalChannelCount = some tot ∧ t.record.totalBitrate = some b
      ∧ tot.toNat = ch.toNat + ob.toNat ∧ 1 ≤ b.toNat
      ∧ (t.record.contentType = some .channelBased ∨ t.record.contentType = some .ambisonic → ob = 0 ∧ 1 ≤ ch.toNat)
      ∧ (t.record.contentType = some .objectBased → ch = 0 ∧ 1 ≤ ob.toNat)
      ∧ (t.record.contentType = some .channelObject → 1 ≤ ch.toNat ∧ 1 ≤ ob.toNat)
      ∧ t.record.contentType ≠ none
      ∧ holds t.record.samplingRateIndex (fun i => decide (i.toNat < 9)) = true
      ∧ holds t.record.resolutionIndex (fun i => decide (i.toNat < 3)) = true
      ∧ (∀ c, t.record.channelConfigIndex = some c → ccLegal c = true)
      ∧ (∀ c i, t.record.channelConfigIndex = some c → t.record.bitrateIndex = some i → i.toNat < live s.params c.toNat)
      ∧ (∀ i, t.record.perObjectBitrateIndex = some i → i.toNat < live s.params 0)

/-- R164: the total bitrate of a decode is below `2^40`. -/
def Obligations.TotalBitrateBelowLimit : Prop :=
  ∀ s t : State, exec .decode s = .next t → t.status = .ok → ∃ b, t.record.totalBitrate = some b ∧ b.toNat < 2 ^ 40

/-- R164, R176: the largest total bitrate and the largest frame length of a decode with the default ROM, whose contents
the spec presumes (log 1). -/
def Obligations.LargestWithTheDefaultRom : Prop :=
  ∀ s t : State, s.params = Config.defaultParams → exec .decode s = .next t → t.status = .ok →
    ∃ b n, t.record.totalBitrate = some b ∧ b.toNat ≤ 25472000 ∧ t.frameBytes = some n ∧ n.toNat ≤ 407552

/-- R72: the checksums and the unread bits have no influence on the result. -/
def Obligations.IgnoredBitsHaveNoInfluence : Prop :=
  ∀ (s t : State) (w w' : Window) (i i' : Instr), decodeWindow w = .ok i → decodeWindow w' = .ok i' →
    eraseIgnored i = eraseIgnored i' → exec .decode { s with w := w } = .next t →
    exec .decode { s with w := w' } = .next { t with w := w' }

/-- R146: the same window (and the same parameters) gives the same status, record and FRAME_BYTES, whatever else the
two states hold. -/
def Obligations.DecodeIsAFunctionOfTheWindow : Prop :=
  ∀ s s' : State, s.w = s'.w → s.params = s'.params →
    ∃ t t', exec .decode s = .next t ∧ exec .decode s' = .next t' ∧ t.status = t'.status ∧ t.record = t'.record
      ∧ t.frameBytes = t'.frameBytes ∧ t.pos = t'.pos ∧ t.cause = t'.cause

/-- R40, R189, R23: what a header and DECODE leave unchanged: the parameters, the latched inputs (the window among
them), PROBE_HIT, and the model's own fields. -/
def Obligations.DecodeFrame : Prop :=
  ∀ (i : Instr) (s t : State), isHeader i = true ∨ i = .decode → exec i s = .next t →
    t.params = s.params ∧ t.cmdL = s.cmdL ∧ t.w = s.w ∧ t.flbL = s.flbL ∧ t.flfsL = s.flfsL ∧ t.probeHit = s.probeHit
      ∧ t.resetDone = s.resetDone ∧ t.inputs = s.inputs ∧ t.tick = s.tick

/-! ## The other commands -/

/-- R188: PROBE completes with OK and writes PROBE_HIT: 1 exactly if byte 0 is 0xFF and byte 1 at least 0xF0; nothing
else but FSM (and the ghost cause) changes, so the record, FRAME_BYTES and POS keep their values. -/
def Obligations.ProbeResult : Prop :=
  ∀ s : State, exec .probe s = .next { s with
    probeHit := if windowByte s.w 0 = 0xFF ∧ 0xF0 ≤ (windowByte s.w 1).toNat then 1 else 0
    status := .ok, fsm := .idle, cause := none }

/-- R190, R170: FRAMELEN completes: INVALID outside its domain, else the frame length; the record, PROBE_HIT and POS
keep their values. -/
def Obligations.FramelenResult : Prop :=
  ∀ s : State,
    if s.flfsL = 0 ∨ 2 ^ 54 ≤ s.flbL.toNat then
      exec .framelen s = .next { s with frameBytes := none, status := .invalid, fsm := .idle, cause := some .flDom }
    else ∃ v : BitVec 64,
      exec .framelen s = .next { s with frameBytes := some v, status := .ok, fsm := .idle, cause := none }
        ∧ (v.toNat : Int) = frameLenExact s.flbL.toNat s.flfsL.toNat

/-- R186: NOP changes no state: an edge that starts it, on a block that has been reset (R241), leaves everything but the
used-up input and the edge count. -/
def Obligations.NopChangesNothing : Prop :=
  ∀ s : State, exec .nop s = .next s
    ∧ (s.resetDone = true → s.port.rst = false → s.port.start = true → s.port.cmd = 0 → s.status ≠ .busy →
        step s = .next { s with inputs := s.inputs.tail, tick := s.tick + 1 })

/-- R212: what a failure does: INVALID, S_IDLE, FRAME_BYTES without a value, PROBE_HIT unchanged; every record register
without a value after a failed DECODE and unchanged after a failed FRAMELEN. -/
def Obligations.FailureEffect : Prop :=
  ∀ (i : Instr) (s t : State), i ≠ .nop → exec i s = .next t → t.status = .invalid →
    t.fsm = .idle ∧ t.frameBytes = none ∧ t.probeHit = s.probeHit
      ∧ t.record = if i = .framelen then s.record else Record.empty

/-- R191: which command writes which result register: the others leave it as it was. -/
def Obligations.ResultRegistersKept : Prop :=
  ∀ (i : Instr) (s t : State), exec i s = .next t →
    (i ≠ .probe → t.probeHit = s.probeHit)
    ∧ (i = .probe ∨ i = .nop → t.frameBytes = s.frameBytes ∧ t.record = s.record ∧ t.pos = s.pos)
    ∧ (i = .framelen → t.record = s.record ∧ t.pos = s.pos)

/-! ## The frame length -/

/-- R170, D14: the integer forms of the model are FrameLen over the exact rationals, on both paths. -/
def Obligations.FrameLenIsExact : Prop :=
  ∀ b fs : Nat, fs ≠ 0 → (frameLen b fs : Int) = frameLenExact b fs

/-- R173: the two paths differ exactly when the exact bit count is not an integer and its floor is a multiple of 8;
then the single ceiling is one byte larger. The examples are those of the rule. -/
def Obligations.RoundingPathsDiffer : Prop :=
  (∀ b fs : Nat, fs ≠ 0 → frameLenSingleCeil b fs
      = (b * 1024 / fs + 7) / 8 + if ¬ fs ∣ b * 1024 ∧ 8 ∣ b * 1024 / fs then 1 else 0)
  ∧ frameLen 256000 44100 = 743 ∧ frameLenSingleCeil 256000 44100 = 744
  ∧ frameLen 164000 44100 = 476 ∧ frameLenSingleCeil 164000 44100 = 477
  ∧ frameLen 11026 44100 = 32 ∧ frameLenSingleCeil 11026 44100 = 33
  ∧ frameLen 128000 22050 = 744 ∧ (128000 * 1024 / 22050 + 7) / 8 = 743
  ∧ frameLen 128000 44100 = 372 ∧ frameLenSingleCeil 128000 44100 = 372

/-- R178: the corner cases of FrameLen; neither `B = 0` nor `fs = 0` comes from a DECODE. -/
def Obligations.FrameLenCorners : Prop :=
  (∀ fs : Nat, fs ≠ 0 → frameLen 0 fs = 0)
  ∧ (∀ b fs : Nat, 1 ≤ b → fs ≠ 0 → fs ≠ 44100 → 1 ≤ frameLen b fs) ∧ frameLen 1 48000 = 1
  ∧ (∀ b : Nat, b ≤ 43 → frameLen b 44100 = 0) ∧ frameLen 44 44100 = 1
  ∧ frameLen 44100 44100 = 128 ∧ frameLen 48000 48000 = 128 ∧ frameLen 375 48000 = 1 ∧ frameLen 376 48000 = 2
  ∧ (∀ b b' fs : Nat, fs ≠ 0 → b ≤ b' → frameLen b fs ≤ frameLen b' fs)
  ∧ (∀ s : State, s.flfsL = 0 → ∃ t, exec .framelen s = .next t ∧ t.status = .invalid)
  ∧ ∀ s t : State, exec .decode s = .next t → t.status = .ok →
      ∃ b fs, t.record.totalBitrate = some b ∧ t.record.samplingRate = some fs ∧ b ≠ 0 ∧ fs ≠ 0

/-- R176: the frame length is at most 128 bytes for each bit per second, so inside the domain it fits its register. -/
def Obligations.FrameLenFits : Prop :=
  ∀ b fs : Nat, 1 ≤ fs → frameLen b fs ≤ b * 128 ∧ (b < 2 ^ 54 → frameLen b fs < 2 ^ 61 ∧ b * 1024 < 2 ^ 64)

/-! ## Clock edges -/

/-- R186, R187: on a block that has been reset (R241), an edge that starts a command at pace `command` is exec of the fetched instruction on the started
state; the edge uses up the input sample and counts, and the start latches the inputs. For DECODE with a window that
holds a header, that instruction is the header; for every other code it is the command. -/
def Obligations.StepRunsTheFetchedInstruction : Prop :=
  ∀ s : State, s.resetDone = true → s.port.rst = false → s.port.start = true → s.status ≠ .busy → s.port.pace = .command →
    step s = exec (fetch s.port) (s.advance.begin s.port)
    ∧ (s.port.cmd ≠ 2 → fetch s.port = decodeCommand s.port.cmd)
    ∧ (∀ i, s.port.cmd = 2 → decodeWindow s.port.win = .ok i → fetch s.port = i)
    ∧ (∀ e, s.port.cmd = 2 → decodeWindow s.port.win = .error e → fetch s.port = .decode)

/-- Log 12, log 13: placing the table's bits of a header or of a command makes the next step run exactly it. -/
def Obligations.PlacedWordRuns : Prop :=
  (∀ (s : State) (i : Instr) (w : Window), encode i = .window w → isHeader i = true →
    decodeTableWord 72 w.toNat = some i
    ∧ step (s.withFetchWord 72 w.toNat)
        = exec i ((s.withFetchWord 72 w.toNat).advance.begin (PortSample.request 2 w)))
  ∧ ∀ (s : State) (c : BitVec 2),
    decodeTableWord 8 c.toNat = some (decodeCommand c)
    ∧ step (s.withFetchWord 8 c.toNat)
        = exec (decodeCommand c) ((s.withFetchWord 8 c.toNat).advance.begin (PortSample.request c 0))

/-- R186, R13: the start edge of a block that has been reset (R241), where the block gets no further than the start (log 4): the latches, BUSY and the first
state of the command, and nothing at all for NOP; with `start = 0` in S_IDLE nothing happens. The start of a DECODE sets
POS to 0 and takes the values of every REC register and of FRAME_BYTES (R24, R94, R189); that of a PROBE or FRAMELEN
leaves them (R23, R188, R190). -/
def Obligations.StartEdge : Prop :=
  ∀ s : State, s.resetDone = true → s.port.rst = false → s.status ≠ .busy →
    (s.port.start = true → s.port.cmd ≠ 0 → s.port.pace ≠ .command →
      ∃ t, step s = .next t ∧ t.cmdL = s.port.cmd ∧ t.w = s.port.win ∧ t.flbL = s.port.flB ∧ t.flfsL = s.port.flFs
        ∧ t.status = .busy
        ∧ t.fsm = (if s.port.cmd = 1 then .sProbe else if s.port.cmd = 2 then .s1Sync else .sFlc)
        ∧ t.probeHit = s.probeHit
        ∧ (if s.port.cmd = 2 then t.pos = 0 ∧ t.record = Record.empty ∧ t.frameBytes = none
           else t.pos = s.pos ∧ t.record = s.record ∧ t.frameBytes = s.frameBytes))
    ∧ (s.port.start = true → s.port.cmd = 0 → step s = .next s.advance)
    ∧ (s.port.start = false → s.fsm = .idle → step s = .next s.advance)

/-- R191, R13, U6: while a block that has been reset (R241) is BUSY the ports other than reset do not matter: neither `start` nor a change of the inputs
disturbs the running command. -/
def Obligations.BusyIgnoresThePorts : Prop :=
  ∀ (s : State) (p q : PortSample) (rest : List PortSample), s.resetDone = true → s.status = .busy → p.rst = q.rst → p.pace = q.pace →
    step { s with inputs := p :: rest } = step { s with inputs := q :: rest }

/-- R240, R241: an edge with `rst = 1`, in any state, before the first reset as after it, whatever `start` says; the state
after it meets the invariant. The latched inputs hold no value by the rule and 0 in the model (log 3); this says nothing
about them. Before the first reset a start is refused, any other edge leaves the block not reset, and the ROMs have their
contents from power-up; that the model knows whether there was a reset is its own (log 19). -/
def Obligations.ResetEdge : Prop :=
  (∀ s : State, s.port.rst = true →
    ∃ t, step s = .next t ∧ t.status = .idle ∧ t.fsm = .idle ∧ t.pos = 0 ∧ t.probeHit = 0 ∧ t.frameBytes = none
      ∧ t.record = Record.empty ∧ t.soundbed = none ∧ t.params = s.params ∧ t.inputs = s.inputs.tail
      ∧ t.resetDone = true ∧ t.Inv = true)
  ∧ (∀ s : State, s.resetDone = false → s.port.rst = false →
      if s.port.start = true then step s = .refused .commandBeforeReset
      else ∃ t, step s = .next t ∧ t.params = s.params ∧ t.resetDone = false)
  ∧ ∀ P : Config.Params, (State.powerUp P).params = P ∧ (State.powerUp P).resetDone = false

/-- R32: what the rule gives for the state after reset. That the parameters are the default ones is log 1. -/
def Obligations.ResetValues : Prop :=
  State.reset.status = .idle ∧ State.reset.fsm = .idle ∧ State.reset.pos = 0 ∧ State.reset.probeHit = 0
    ∧ State.reset.frameBytes = none ∧ State.reset.record = Record.empty ∧ State.reset.params = Config.defaultParams

/-- R187: every started command completes: whatever state of the grammar the block is in, the run to the end answers
S_IDLE with OK or INVALID, or stops for a reason that the invariant rules out; it never runs out of states. -/
def Obligations.RunsNeverRunOut : Prop :=
  ∀ s : State, finish s ≠ .fault .noProgress

/-- R187: every command but NOP completes with OK or INVALID and S_IDLE, from every state. -/
def Obligations.EveryCommandCompletes : Prop :=
  ∀ (i : Instr) (s : State), i ≠ .nop →
    ∃ t, exec i s = .next t ∧ t.fsm = .idle ∧ (t.status = .ok ∨ t.status = .invalid)

/-- R187, D26: one FSM state and then the rest is the whole: how the run is cut does not matter. -/
def Obligations.OneStateThenTheRest : Prop :=
  ∀ s t : State, micro s = .next t → finish t = finish s

/-- R187, D26: for every command, the atomic transition of the start edge and the run, state by state, from the started
state give the same result. -/
def Obligations.AtomicEqualsStateByState : Prop :=
  ∀ (s : State) (p : PortSample), p.cmd ≠ 0 → exec (fetch p) (s.begin p) = finish (s.begin p)

/-- R187, U13: the number of edges does not matter. One edge (a start edge, or one at which a command is in progress, or
none) and any list of further edges without a start, each at any pace (`hold`, one state, to the end), reach, if the block
is then not BUSY, the state that the first edge alone reaches at pace `command`, but for the edge count. The paces are
the model's (log 4), and so is the one-transition command (log 11); the invariant rules out states in which an operand
holds no value, whose free value could differ from edge to edge (log 7). -/
def Obligations.EdgeCountDoesNotMatter : Prop :=
  ∀ (s t : State) (p : PortSample) (qs : List PortSample), s.Inv = true → p.rst = false →
    (∀ q ∈ qs, q.rst = false ∧ q.start = false) →
    edges (qs.length + 1) { s with inputs := p :: qs } = .next t → t.status ≠ .busy →
    step { s with inputs := [{ p with pace := .command }] } = .next { t with tick := s.tick + 1 }

/-- R15: FSM changes only along the arrows of the grammar. -/
def Obligations.FsmFollowsTheGrammar : Prop :=
  ∀ s t : State, micro s = .next t → t.fsm ∈ s.fsm.successors

/-- R140, C1: in S11_BR both formats of profile 1 read nothing and keep their total bitrate. -/
def Obligations.Profile1SkipsStep11 : Prop :=
  ∀ s : State, s.fsm = .s11Br → s.record.codingProfile = some 1 → micro s = .next { s with fsm := .s12Skip2 }

/-! ## Invariants -/

/-- R14, R29, R93, R100, R186, R241: the invariant of the block is kept by every step, at every pace. -/
def Obligations.InvariantKept : Prop :=
  ∀ s t : State, s.Inv = true → step s = .next t → t.Inv = true

/-- The invariant holds after reset. -/
def Obligations.InvariantAtReset : Prop :=
  State.reset.Inv = true

/-- R93, R142, R187: from every state that meets the invariant the step answers a next state: no read leaves the window,
no ROM is read outside its entries, and the frame length is always defined. -/
def Obligations.InvariantNeverStops : Prop :=
  ∀ s : State, s.Inv = true → ∃ t, step s = .next t

/-- R11: no step changes the ROMs and the parameters. -/
def Obligations.ParametersNeverChange : Prop :=
  ∀ s t : State, step s = .next t → t.params = s.params

/-! ## Ports and host -/

/-- R12, R20, R26, R51, U3: `status` always shows the STATUS register; once STATUS is not BUSY `probe_hit`, `frame_bytes`
and each of the 20 `rec_*` ports show their registers, where these hold values. -/
def Obligations.PortsShowTheRegisters : Prop :=
  ∀ s : State, s.outputs.status = s.status.code ∧
    (s.status ≠ .busy → s.outputs.probeHit = s.probeHit
      ∧ (∀ v, s.frameBytes = some v → s.outputs.frameBytes = v)
      ∧ (∀ v, s.record.syncWord = some v → s.outputs.recSyncWord = v)
      ∧ (∀ v, s.record.codecId = some v → s.outputs.recCodecId = v)
      ∧ (∀ v, s.record.ancillaryDataFlag = some v → s.outputs.recAncillaryDataFlag = v)
      ∧ (∀ v, s.record.neuralNetworkType = some v → s.outputs.recNeuralNetworkType = v)
      ∧ (∀ v, s.record.codingProfile = some v → s.outputs.recCodingProfile = v)
      ∧ (∀ v, s.record.samplingRateIndex = some v → s.outputs.recSamplingRateIndex = v)
      ∧ (∀ v, s.record.samplingRate = some v → s.outputs.recSamplingRate = v)
      ∧ (∀ v, s.record.contentType = some v → s.outputs.recContentType = v.code)
      ∧ (∀ v, s.record.soundbedType = some v → s.outputs.recSoundbedType = v)
      ∧ (∀ v, s.record.channelConfigIndex = some v → s.outputs.recChannelConfigIndex = v)
      ∧ (∀ v, s.record.channelCount = some v → s.outputs.recChannelCount = v)
      ∧ (∀ v, s.record.objectCount = some v → s.outputs.recObjectCount = v)
      ∧ (∀ v, s.record.totalChannelCount = some v → s.outputs.recTotalChannelCount = v)
      ∧ (∀ v, s.record.bitrateIndex = some v → s.outputs.recBitrateIndex = v)
      ∧ (∀ v, s.record.perObjectBitrateIndex = some v → s.outputs.recPerObjectBitrateIndex = v)
      ∧ (∀ v, s.record.totalBitrate = some v → s.outputs.recTotalBitrate = v)
      ∧ (∀ v, s.record.resolutionIndex = some v → s.outputs.recResolutionIndex = v)
      ∧ (∀ v, s.record.resolutionBits = some v → s.outputs.recResolutionBits = v)
      ∧ (∀ v, s.record.sampleFormat = some v → s.outputs.recSampleFormat = v)
      ∧ (∀ v, s.record.ambisonicOrder = some v → s.outputs.recAmbisonicOrder = v))

/-- R197: with fewer than 9 bytes at stream open the host reports truncation and issues no command. That the byte source
too stays where it was after the short read is the model's choice (log 17). -/
def Obligations.ShortStreamIsTruncation : Prop :=
  ∀ d : Driver, d.source.bytes.length < d.source.pos + 9 → openStream d = (.truncated, d)

/-- R200, R201, R203: from a block that has been reset and is not BUSY, over a stream made of frames, each a legal header followed by as many payload bytes as its
FRAME_BYTES says (`HDR_IN_LEN = excluded`), the host's walk reads exactly those frames, from header to header with no
drift, and then meets the clean end of the stream. -/
def Obligations.WalkHasZeroDrift : Prop :=
  ∀ (s : State) (frames : List (Window × List Byte)), s.resetDone = true → s.status ≠ .busy →
    (∀ f ∈ frames, ∃ i t n, decodeWindow f.1 = .ok i ∧ exec i s = .next t ∧ t.status = .ok ∧ t.frameBytes = some n
      ∧ f.2.length = n.toNat) →
    let bytes := frames.flatMap fun f => windowBytesOf f.1 ++ f.2
    ∃ t, walk .excluded (frames.length + 1) ⟨⟨bytes, 0⟩, s⟩
      = (frames.map fun f => windowBytesOf f.1 ++ f.2, .endOfStream, ⟨⟨bytes, bytes.length⟩, t⟩)

/-- R195, R196, R199, R200: (1) a probe and a stream open leave the byte source where it was, whatever they find; after a
read of all the bytes asked for this is R199, after a short read, and where the block gives no next state, it is the
model's choice (log 17). (2) A frame read that gives a frame leaves the source at the next header of R200, for both
values of `HDR_IN_LEN`. (3) For `HDR_IN_LEN = excluded` only, which `playStream` takes by default (`defaultHdrInLen`; D22,
log 17; N12 asks that a claim about a stream name it): a host that probes, opens and then walks a stream laid out that
way (each legal header followed by FRAME_BYTES payload bytes) reads every frame of it, the first one from the header that
it opened, and then meets the clean end of the stream, even if the block is BUSY when the host comes to it (the host
waits). Nothing is claimed about a stream for `HDR_IN_LEN = included`. `accept` is any host that goes on after a hit; the
form of the host is the model's (log 17). -/
def Obligations.SessionSeeksBackBeforeTheFirstFrame : Prop :=
  (∀ (rest : BitVec 56) (d : Driver), (probeStream rest d).2.source = d.source ∧ (openStream d).2.source = d.source)
  ∧ (∀ (m : HdrInLen) (d d' : Driver) (bytes : List Byte) (next : Nat), readFrame m d = (.frame bytes next, d') →
      bytes.length = frameExtent m d'.block.outputs.frameBytes.toNat
        ∧ next = nextHeader m d.source.pos d'.block.outputs.frameBytes.toNat ∧ d'.source.pos = next)
  ∧ ∀ (s : State) (rest : BitVec 56) (accept : Bool → Bool) (frames : List (Window × List Byte)), s.Inv = true →
      accept true = true → frames ≠ [] →
      (∀ f ∈ frames, ∃ i t n, decodeWindow f.1 = .ok i ∧ exec i s = .next t ∧ t.status = .ok ∧ t.frameBytes = some n
        ∧ f.2.length = n.toNat) →
      let bytes := frames.flatMap fun f => windowBytesOf f.1 ++ f.2
      (∃ t, probeStream rest ⟨⟨bytes, 0⟩, s⟩ = (.probed true, ⟨⟨bytes, 0⟩, t⟩))
        ∧ (∃ params side t, openStream ⟨⟨bytes, 0⟩, s⟩ = (.opened params side, ⟨⟨bytes, 0⟩, t⟩))
        ∧ ∃ t, playStream rest accept (frames.length + 1) ⟨⟨bytes, 0⟩, s⟩
            = (frames.map fun f => windowBytesOf f.1 ++ f.2, .endOfStream, ⟨⟨bytes, bytes.length⟩, t⟩)
end

