-- ==== Sys2Proof/Laws/State.lean ====
section
/-!
SUPPORT. What each update of the state does to each field: one lemma per field and update.
-/

namespace Sys2Proof.Machine

variable (s : State)

/-! ## `advancePos` -/

@[simp] theorem State.advancePos_params (n : Nat) : (s.advancePos n).params = s.params := rfl
@[simp] theorem State.advancePos_cmdL (n : Nat) : (s.advancePos n).cmdL = s.cmdL := rfl
@[simp] theorem State.advancePos_w (n : Nat) : (s.advancePos n).w = s.w := rfl
@[simp] theorem State.advancePos_flbL (n : Nat) : (s.advancePos n).flbL = s.flbL := rfl
@[simp] theorem State.advancePos_flfsL (n : Nat) : (s.advancePos n).flfsL = s.flfsL := rfl
@[simp] theorem State.advancePos_fsm (n : Nat) : (s.advancePos n).fsm = s.fsm := rfl
@[simp] theorem State.advancePos_pos (n : Nat) : (s.advancePos n).pos = s.pos + BitVec.ofNat 7 n := rfl
@[simp] theorem State.advancePos_soundbed (n : Nat) : (s.advancePos n).soundbed = s.soundbed := rfl
@[simp] theorem State.advancePos_record (n : Nat) : (s.advancePos n).record = s.record := rfl
@[simp] theorem State.advancePos_status (n : Nat) : (s.advancePos n).status = s.status := rfl
@[simp] theorem State.advancePos_probeHit (n : Nat) : (s.advancePos n).probeHit = s.probeHit := rfl
@[simp] theorem State.advancePos_frameBytes (n : Nat) : (s.advancePos n).frameBytes = s.frameBytes := rfl
@[simp] theorem State.advancePos_resetDone (n : Nat) : (s.advancePos n).resetDone = s.resetDone := rfl
@[simp] theorem State.advancePos_cause (n : Nat) : (s.advancePos n).cause = s.cause := rfl
@[simp] theorem State.advancePos_inputs (n : Nat) : (s.advancePos n).inputs = s.inputs := rfl
@[simp] theorem State.advancePos_tick (n : Nat) : (s.advancePos n).tick = s.tick := rfl

/-! ## `latch` -/

@[simp] theorem State.latch_params (p : PortSample) : (s.latch p).params = s.params := rfl
@[simp] theorem State.latch_cmdL (p : PortSample) : (s.latch p).cmdL = p.cmd := rfl
@[simp] theorem State.latch_w (p : PortSample) : (s.latch p).w = p.win := rfl
@[simp] theorem State.latch_flbL (p : PortSample) : (s.latch p).flbL = p.flB := rfl
@[simp] theorem State.latch_flfsL (p : PortSample) : (s.latch p).flfsL = p.flFs := rfl
@[simp] theorem State.latch_fsm (p : PortSample) : (s.latch p).fsm = s.fsm := rfl
@[simp] theorem State.latch_pos (p : PortSample) : (s.latch p).pos = s.pos := rfl
@[simp] theorem State.latch_soundbed (p : PortSample) : (s.latch p).soundbed = s.soundbed := rfl
@[simp] theorem State.latch_record (p : PortSample) : (s.latch p).record = s.record := rfl
@[simp] theorem State.latch_status (p : PortSample) : (s.latch p).status = s.status := rfl
@[simp] theorem State.latch_probeHit (p : PortSample) : (s.latch p).probeHit = s.probeHit := rfl
@[simp] theorem State.latch_frameBytes (p : PortSample) : (s.latch p).frameBytes = s.frameBytes := rfl
@[simp] theorem State.latch_resetDone (p : PortSample) : (s.latch p).resetDone = s.resetDone := rfl
@[simp] theorem State.latch_cause (p : PortSample) : (s.latch p).cause = s.cause := rfl
@[simp] theorem State.latch_inputs (p : PortSample) : (s.latch p).inputs = s.inputs := rfl
@[simp] theorem State.latch_tick (p : PortSample) : (s.latch p).tick = s.tick := rfl

/-! ## `startDecode` -/

@[simp] theorem State.startDecode_params : (s.startDecode).params = s.params := rfl
@[simp] theorem State.startDecode_cmdL : (s.startDecode).cmdL = s.cmdL := rfl
@[simp] theorem State.startDecode_w : (s.startDecode).w = s.w := rfl
@[simp] theorem State.startDecode_flbL : (s.startDecode).flbL = s.flbL := rfl
@[simp] theorem State.startDecode_flfsL : (s.startDecode).flfsL = s.flfsL := rfl
@[simp] theorem State.startDecode_fsm : (s.startDecode).fsm = .s1Sync := rfl
@[simp] theorem State.startDecode_pos : (s.startDecode).pos = 0 := rfl
@[simp] theorem State.startDecode_soundbed : (s.startDecode).soundbed = none := rfl
@[simp] theorem State.startDecode_record : (s.startDecode).record = Record.empty := rfl
@[simp] theorem State.startDecode_status : (s.startDecode).status = s.status := rfl
@[simp] theorem State.startDecode_probeHit : (s.startDecode).probeHit = s.probeHit := rfl
@[simp] theorem State.startDecode_frameBytes : (s.startDecode).frameBytes = none := rfl
@[simp] theorem State.startDecode_resetDone : (s.startDecode).resetDone = s.resetDone := rfl
@[simp] theorem State.startDecode_cause : (s.startDecode).cause = s.cause := rfl
@[simp] theorem State.startDecode_inputs : (s.startDecode).inputs = s.inputs := rfl
@[simp] theorem State.startDecode_tick : (s.startDecode).tick = s.tick := rfl

/-! ## `complete` -/

@[simp] theorem State.complete_params : (s.complete).params = s.params := rfl
@[simp] theorem State.complete_cmdL : (s.complete).cmdL = s.cmdL := rfl
@[simp] theorem State.complete_w : (s.complete).w = s.w := rfl
@[simp] theorem State.complete_flbL : (s.complete).flbL = s.flbL := rfl
@[simp] theorem State.complete_flfsL : (s.complete).flfsL = s.flfsL := rfl
@[simp] theorem State.complete_fsm : (s.complete).fsm = .idle := rfl
@[simp] theorem State.complete_pos : (s.complete).pos = s.pos := rfl
@[simp] theorem State.complete_soundbed : (s.complete).soundbed = s.soundbed := rfl
@[simp] theorem State.complete_record : (s.complete).record = s.record := rfl
@[simp] theorem State.complete_status : (s.complete).status = .ok := rfl
@[simp] theorem State.complete_probeHit : (s.complete).probeHit = s.probeHit := rfl
@[simp] theorem State.complete_frameBytes : (s.complete).frameBytes = s.frameBytes := rfl
@[simp] theorem State.complete_resetDone : (s.complete).resetDone = s.resetDone := rfl
@[simp] theorem State.complete_cause : (s.complete).cause = none := rfl
@[simp] theorem State.complete_inputs : (s.complete).inputs = s.inputs := rfl
@[simp] theorem State.complete_tick : (s.complete).tick = s.tick := rfl

/-! ## `applyReset` -/

@[simp] theorem State.applyReset_params : (s.applyReset).params = s.params := rfl
@[simp] theorem State.applyReset_cmdL : (s.applyReset).cmdL = 0 := rfl
@[simp] theorem State.applyReset_w : (s.applyReset).w = 0 := rfl
@[simp] theorem State.applyReset_flbL : (s.applyReset).flbL = 0 := rfl
@[simp] theorem State.applyReset_flfsL : (s.applyReset).flfsL = 0 := rfl
@[simp] theorem State.applyReset_fsm : (s.applyReset).fsm = .idle := rfl
@[simp] theorem State.applyReset_pos : (s.applyReset).pos = 0 := rfl
@[simp] theorem State.applyReset_soundbed : (s.applyReset).soundbed = none := rfl
@[simp] theorem State.applyReset_record : (s.applyReset).record = Record.empty := rfl
@[simp] theorem State.applyReset_status : (s.applyReset).status = .idle := rfl
@[simp] theorem State.applyReset_probeHit : (s.applyReset).probeHit = 0 := rfl
@[simp] theorem State.applyReset_frameBytes : (s.applyReset).frameBytes = none := rfl
@[simp] theorem State.applyReset_resetDone : (s.applyReset).resetDone = true := rfl
@[simp] theorem State.applyReset_cause : (s.applyReset).cause = none := rfl
@[simp] theorem State.applyReset_inputs : (s.applyReset).inputs = s.inputs := rfl
@[simp] theorem State.applyReset_tick : (s.applyReset).tick = s.tick := rfl

/-! ## `unspecified` -/

@[simp] theorem State.unspecified_params : (s.unspecified).params = s.params := rfl
@[simp] theorem State.unspecified_cmdL : (s.unspecified).cmdL = s.powerUpBits .cmdL 2 := rfl
@[simp] theorem State.unspecified_w : (s.unspecified).w = s.powerUpBits .w 72 := rfl
@[simp] theorem State.unspecified_flbL : (s.unspecified).flbL = s.powerUpBits .flbL 64 := rfl
@[simp] theorem State.unspecified_flfsL : (s.unspecified).flfsL = s.powerUpBits .flfsL 32 := rfl
@[simp] theorem State.unspecified_fsm : (s.unspecified).fsm = fsmOfPattern (s.powerUpBits .fsm 72) := rfl
@[simp] theorem State.unspecified_pos : (s.unspecified).pos = s.powerUpBits .pos 7 := rfl
@[simp] theorem State.unspecified_soundbed : (s.unspecified).soundbed = none := rfl
@[simp] theorem State.unspecified_record : (s.unspecified).record = Record.empty := rfl
@[simp] theorem State.unspecified_status : (s.unspecified).status = statusOfCode (s.powerUpBits .status 2) := rfl
@[simp] theorem State.unspecified_probeHit : (s.unspecified).probeHit = s.powerUpBits .probeHit 1 := rfl
@[simp] theorem State.unspecified_frameBytes : (s.unspecified).frameBytes = none := rfl
@[simp] theorem State.unspecified_resetDone : (s.unspecified).resetDone = false := rfl
@[simp] theorem State.unspecified_cause : (s.unspecified).cause = none := rfl
@[simp] theorem State.unspecified_inputs : (s.unspecified).inputs = s.inputs := rfl
@[simp] theorem State.unspecified_tick : (s.unspecified).tick = s.tick := rfl

/-! ## `advance` -/

@[simp] theorem State.advance_params : (s.advance).params = s.params := rfl
@[simp] theorem State.advance_cmdL : (s.advance).cmdL = s.cmdL := rfl
@[simp] theorem State.advance_w : (s.advance).w = s.w := rfl
@[simp] theorem State.advance_flbL : (s.advance).flbL = s.flbL := rfl
@[simp] theorem State.advance_flfsL : (s.advance).flfsL = s.flfsL := rfl
@[simp] theorem State.advance_fsm : (s.advance).fsm = s.fsm := rfl
@[simp] theorem State.advance_pos : (s.advance).pos = s.pos := rfl
@[simp] theorem State.advance_soundbed : (s.advance).soundbed = s.soundbed := rfl
@[simp] theorem State.advance_record : (s.advance).record = s.record := rfl
@[simp] theorem State.advance_status : (s.advance).status = s.status := rfl
@[simp] theorem State.advance_probeHit : (s.advance).probeHit = s.probeHit := rfl
@[simp] theorem State.advance_frameBytes : (s.advance).frameBytes = s.frameBytes := rfl
@[simp] theorem State.advance_resetDone : (s.advance).resetDone = s.resetDone := rfl
@[simp] theorem State.advance_cause : (s.advance).cause = s.cause := rfl
@[simp] theorem State.advance_inputs : (s.advance).inputs = s.inputs.tail := rfl
@[simp] theorem State.advance_tick : (s.advance).tick = s.tick + 1 := rfl

/-! ## `raiseInvalid` (R212) -/

@[simp] theorem State.raiseInvalid_params (c : Cause) : (s.raiseInvalid c).params = s.params := by cases c <;> rfl
@[simp] theorem State.raiseInvalid_cmdL (c : Cause) : (s.raiseInvalid c).cmdL = s.cmdL := by cases c <;> rfl
@[simp] theorem State.raiseInvalid_w (c : Cause) : (s.raiseInvalid c).w = s.w := by cases c <;> rfl
@[simp] theorem State.raiseInvalid_flbL (c : Cause) : (s.raiseInvalid c).flbL = s.flbL := by cases c <;> rfl
@[simp] theorem State.raiseInvalid_flfsL (c : Cause) : (s.raiseInvalid c).flfsL = s.flfsL := by cases c <;> rfl
@[simp] theorem State.raiseInvalid_fsm (c : Cause) : (s.raiseInvalid c).fsm = .idle := by cases c <;> rfl
@[simp] theorem State.raiseInvalid_pos (c : Cause) : (s.raiseInvalid c).pos = s.pos := by cases c <;> rfl
@[simp] theorem State.raiseInvalid_status (c : Cause) : (s.raiseInvalid c).status = .invalid := by cases c <;> rfl
@[simp] theorem State.raiseInvalid_probeHit (c : Cause) : (s.raiseInvalid c).probeHit = s.probeHit := by cases c <;> rfl
@[simp] theorem State.raiseInvalid_frameBytes (c : Cause) : (s.raiseInvalid c).frameBytes = none := by cases c <;> rfl
@[simp] theorem State.raiseInvalid_resetDone (c : Cause) : (s.raiseInvalid c).resetDone = s.resetDone := by cases c <;> rfl
@[simp] theorem State.raiseInvalid_cause (c : Cause) : (s.raiseInvalid c).cause = some c := by cases c <;> rfl
@[simp] theorem State.raiseInvalid_inputs (c : Cause) : (s.raiseInvalid c).inputs = s.inputs := by cases c <;> rfl
@[simp] theorem State.raiseInvalid_tick (c : Cause) : (s.raiseInvalid c).tick = s.tick := by cases c <;> rfl

/-- A failed DECODE takes every record register's value; a failed FRAMELEN leaves them (R212). -/
@[simp] theorem State.raiseInvalid_record (c : Cause) :
    (s.raiseInvalid c).record = if c = .flDom then s.record else Record.empty := by cases c <;> rfl

@[simp] theorem State.raiseInvalid_soundbed (c : Cause) :
    (s.raiseInvalid c).soundbed = if c = .flDom then s.soundbed else none := by cases c <;> rfl

/-! ## `begin` (R186) -/

/-- NOP starts nothing. -/
theorem State.begin_nop (p : PortSample) (h : p.cmd = 0) : s.begin p = s := by simp [State.begin, h]

/-- The start of PROBE. -/
theorem State.begin_probe (p : PortSample) (h : p.cmd = 1) :
    s.begin p = { s.latch p with status := .busy, cause := none, fsm := .sProbe } := by simp [State.begin, h]

/-- The start of DECODE. -/
theorem State.begin_decode (p : PortSample) (h : p.cmd = 2) :
    s.begin p = ({ s.latch p with status := .busy, cause := none } : State).startDecode := by simp [State.begin, h]

/-- The start of FRAMELEN. -/
theorem State.begin_framelen (p : PortSample) (h : p.cmd = 3) :
    s.begin p = { s.latch p with status := .busy, cause := none, fsm := .sFlc } := by simp [State.begin, h]

end Sys2Proof.Machine
end

