-- ==== Sys2Proof/Laws/Ops.lean ====
section
/-!
SUPPORT. One lemma per shared operation, which says everything it can do: the cursor, the indexers, the ends of a
command, the run of a command.
-/

namespace Sys2Proof.Machine

open Host (Outcome)

/-! ## The cursor -/

/-- A read inside the window with a width of the contract (R90). -/
theorem withRead_inside {n : Nat} {s : State} {k : BitVec n → State → Outcome State Fault Refusal}
    (h1 : 1 ≤ n) (h32 : n ≤ 32) (h : s.pos.toNat + n ≤ 72) :
    withRead n s k = k (memRead s.w s.pos.toNat n) (s.advancePos n) := by
  simp [withRead, windowBits, h1, h32, h]

/-- If a read goes on, it was inside the contract (R90). -/
theorem withRead_next {n : Nat} {s t : State} {k : BitVec n → State → Outcome State Fault Refusal}
    (h : withRead n s k = .next t) :
    s.pos.toNat + n ≤ 72 ∧ k (memRead s.w s.pos.toNat n) (s.advancePos n) = .next t := by
  unfold withRead at h
  split at h
  · split at h
    · exact ⟨‹_›, h⟩
    · cases h
  · cases h

/-- A skip inside the window (R91). -/
theorem withSkip_inside {n : Nat} {s : State} {k : State → Outcome State Fault Refusal} (h : s.pos.toNat + n ≤ 72) :
    withSkip n s k = k (s.advancePos n) := by
  simp [withSkip, windowBits, h]

/-- If a skip goes on, it was inside the window (R91). -/
theorem withSkip_next {n : Nat} {s t : State} {k : State → Outcome State Fault Refusal} (h : withSkip n s k = .next t) :
    s.pos.toNat + n ≤ 72 ∧ k (s.advancePos n) = .next t := by
  unfold withSkip at h
  split at h
  · exact ⟨‹_›, h⟩
  · cases h

/-- The cursor does not wrap inside the window (R14). -/
theorem State.advancePos_toNat (s : State) (n : Nat) (h : s.pos.toNat + n ≤ 72) :
    (s.advancePos n).pos.toNat = s.pos.toNat + n := by
  simp only [advancePos_pos, BitVec.toNat_add, BitVec.toNat_ofNat]
  omega

/-- A register that holds a value reads as that value. -/
@[simp] theorem State.readReg_some (s : State) (r : Config.Reg) {n : Nat} (v : BitVec n) : s.readReg r (some v) = v := rfl

/-! ## The ends of a command -/

@[simp] theorem failWith_eq (s : State) (c : Cause) : failWith s c = .next (s.raiseInvalid c) := rfl

@[simp] theorem goOn_eq (s : State) (f : Fsm) (r : Record) : goOn s f r = .next { s with fsm := f, record := r } := rfl

@[simp] theorem withEntry_ok {α : Type} (s : State) (v : α) (k : α → Outcome State Fault Refusal) :
    withEntry s (.ok v) k = k v := rfl

@[simp] theorem withEntry_error {α : Type} (s : State) (c : Cause) (k : α → Outcome State Fault Refusal) :
    withEntry s (.error c) k = .next (s.raiseInvalid c) := rfl

/-! ## The indexers -/

/-- SRATE succeeds exactly below 9 (R102). -/
theorem srate_cases (P : Config.Params) (i : BitVec 4) :
    (∃ h : i.toNat < 9, srate P i = .ok P.rom.sr[i.toNat]) ∨ (9 ≤ i.toNat ∧ srate P i = .error .srIdx) := by
  unfold srate
  split
  · exact .inl ⟨‹_›, rfl⟩
  · exact .inr ⟨by omega, rfl⟩

/-- CHCFG succeeds exactly on 0..3 and 6..13 (R104). -/
theorem chcfg_cases (P : Config.Params) (c : BitVec 7) :
    (∃ h : c.toNat < 14, c.toNat ≠ 4 ∧ c.toNat ≠ 5 ∧ chcfg P c = .ok P.rom.cc[c.toNat])
      ∨ ((14 ≤ c.toNat ∨ c.toNat = 4 ∨ c.toNat = 5) ∧ chcfg P c = .error .chCfg) := by
  unfold chcfg
  split
  · rename_i h
    exact .inl ⟨h.1, h.2.1, h.2.2, rfl⟩
  · exact .inr ⟨by omega, rfl⟩

/-- RES succeeds exactly below 3 (R108). -/
theorem resolution_cases (P : Config.Params) (i : BitVec 2) :
    (∃ h : i.toNat < 3, resolution P i = .ok P.rom.res[i.toNat]) ∨ (i.toNat = 3 ∧ resolution P i = .error .res) := by
  unfold resolution
  split
  · exact .inl ⟨‹_›, rfl⟩
  · exact .inr ⟨by omega, rfl⟩

/-- LADDER answers the live entry at its index, or the caller's cause at and above the live length (R107). -/
theorem ladder_cases (P : Config.Params) (c : Nat) (i : BitVec 4) (cause : Cause) :
    (∃ h : i.toNat < live P c, ladder P c i cause = .ok (liveEntries P c)[i.toNat])
      ∨ (live P c ≤ i.toNat ∧ ladder P c i cause = .error cause) := by
  unfold ladder live
  by_cases h : i.toNat < (liveEntries P c).length
  · exact .inl ⟨h, by simp [List.getElem?_eq_getElem h]⟩
  · exact .inr ⟨by omega, by simp [List.getElem?_eq_none (by omega : (liveEntries P c).length ≤ i.toNat)]⟩

/-- What LADDER answers is never zero (R107). -/
theorem ladder_ne_zero {P : Config.Params} {c : Nat} {i : BitVec 4} {cause : Cause} {b : BitVec 32}
    (h : ladder P c i cause = .ok b) : b ≠ 0#32 := by
  obtain ⟨hi, he⟩ | ⟨-, he⟩ := ladder_cases P c i cause
  · have hb : (liveEntries P c)[i.toNat] = b := by simpa [he] using h
    have hm : b ∈ liveEntries P c := hb ▸ List.getElem_mem hi
    simpa using List.mem_takeWhile_imp hm
  · simp [he] at h

/-! ## The run of a command -/

@[simp] theorem finishWithin_idle (n : Nat) (s : State) (h : s.fsm = .idle) : finishWithin n s = .next s := by
  cases n <;> simp [finishWithin, h]

/-- One FSM state of a run. -/
theorem finishWithin_micro {n : Nat} {s t : State} (h : s.fsm ≠ .idle) (hm : micro s = .next t) :
    finishWithin (n + 1) s = finishWithin n t := by
  simp [finishWithin, h, hm]

end Sys2Proof.Machine
end

