-- ==== Sys2Proof/Laws/Clock.lean ====
section
/-!
SUPPORT. Everything a clock edge can do (R186, R187, R191, R240, R241), said once.
-/

namespace Sys2Proof.Machine

/-- A reset edge (R240). -/
theorem step_reset {s : State} (hr : s.port.rst = true) : step s = .next s.advance.applyReset := by
  simp [step, clockEdge, hr]

/-- Before the first reset a start is refused and any other edge leaves the state unspecified (R241). -/
theorem step_before_reset {s : State} (hd : s.resetDone = false) (hr : s.port.rst = false) :
    step s = if s.port.start then .refused .commandBeforeReset else .next s.advance.unspecified := by
  simp [step, clockEdge, hr, hd]

/-- An edge of a block that has been reset. -/
theorem step_after_reset {s : State} (hd : s.resetDone = true) (hr : s.port.rst = false) :
    step s = if starts s.port s then startEdge s.port s.advance else runEdge s.port s.advance := by
  simp [step, clockEdge, hr, hd]

/-- What a step to `t` was: a reset, an edge without start before the first reset, the start of a command that was also
completed, a mere start, or an edge at which no command starts. -/
theorem step_cases {s t : State} (h : step s = .next t) :
    (s.port.rst = true ∧ t = s.advance.applyReset)
    ∨ (s.port.rst = false ∧ s.resetDone = false ∧ s.port.start = false ∧ t = s.advance.unspecified)
    ∨ (s.resetDone = true ∧ starts s.port s = true ∧ s.port.pace = .command
        ∧ exec (fetch s.port) (s.advance.begin s.port) = .next t)
    ∨ (s.resetDone = true ∧ starts s.port s = true ∧ s.port.pace ≠ .command ∧ t = s.advance.begin s.port)
    ∨ (s.port.rst = false ∧ s.resetDone = true ∧ starts s.port s = false
        ∧ (s.port.pace = .hold ∧ t = s.advance ∨ s.port.pace = .state ∧ micro s.advance = .next t
            ∨ s.port.pace = .command ∧ finish s.advance = .next t)) := by
  cases hr : s.port.rst with
  | true =>
    rw [step_reset hr] at h
    cases h
    exact .inl ⟨rfl, rfl⟩
  | false =>
    refine .inr ?_
    cases hd : s.resetDone with
    | false =>
      rw [step_before_reset hd hr] at h
      cases hs : s.port.start with
      | true => simp [hs] at h
      | false =>
        rw [hs] at h
        cases h
        exact .inl ⟨rfl, rfl, rfl, rfl⟩
    | true =>
      refine .inr ?_
      rw [step_after_reset hd hr] at h
      cases hs : starts s.port s with
      | true =>
        rw [hs] at h
        cases hp : s.port.pace <;> simp only [startEdge, hp, if_true] at h
        · cases h
          exact .inr (.inl ⟨rfl, rfl, by simp, rfl⟩)
        · cases h
          exact .inr (.inl ⟨rfl, rfl, by simp, rfl⟩)
        · exact .inl ⟨rfl, rfl, rfl, h⟩
      | false =>
        rw [hs] at h
        refine .inr (.inr ⟨rfl, rfl, rfl, ?_⟩)
        cases hp : s.port.pace <;> simp only [runEdge, hp, Bool.false_eq_true, if_false] at h
        · cases h
          exact .inl ⟨rfl, rfl⟩
        · exact .inr (.inl ⟨rfl, h⟩)
        · exact .inr (.inr ⟨rfl, h⟩)

/-- A start edge at pace `command` (R186, R187). -/
theorem step_start {s : State} (hd : s.resetDone = true) (hr : s.port.rst = false) (hs : s.port.start = true)
    (hb : s.status ≠ .busy) (hp : s.port.pace = .command) :
    step s = exec (fetch s.port) (s.advance.begin s.port) := by
  have h : starts s.port s = true := by simp [starts, hr, hs, hb]
  simp [step_after_reset hd hr, h, startEdge, hp]

/-- Only DECODE looks at the window when it fetches. -/
theorem fetch_command {p : PortSample} (h : p.cmd ≠ 2) : fetch p = decodeCommand p.cmd := by
  have hd : decodeCommand p.cmd ≠ .decode := by
    unfold decodeCommand
    split
    · simp
    · split
      · simp
      · simp
  unfold fetch
  split
  · contradiction
  · rfl

/-- DECODE of a window that holds a header fetches the header. -/
theorem fetch_header {p : PortSample} {i : Instr} (h : p.cmd = 2) (hi : decodeWindow p.win = .ok i) : fetch p = i := by
  simp [fetch, decodeCommand, h, hi]

end Sys2Proof.Machine
end

