-- ==== Sys2Proof/Laws/Window.lean ====
section
/-!
SUPPORT. What the memory read primitive gives, bit by bit and as a number (R5).
-/

namespace Sys2Proof.Machine

/-- Bit `i` of a read of `n` bits at `p` is port bit `72 - p - n + i` (R5). -/
theorem memRead_getLsbD (w : Window) (p n i : Nat) :
    (memRead w p n).getLsbD i = (decide (i < n) && w.getLsbD (72 - p - n + i)) := by
  simp [memRead, windowBits]

/-- A read is the port value shifted down, modulo `2 ^ n` (R5). -/
theorem memRead_toNat (w : Window) (p n : Nat) : (memRead w p n).toNat = w.toNat / 2 ^ (72 - p - n) % 2 ^ n := by
  simp [memRead, windowBits, Nat.shiftRight_eq_div_pow]

end Sys2Proof.Machine
end

