-- ==== Sys2Proof/Laws/Decode.lean ====
section
/-!
SUPPORT. Selecting a format by mask and match is testing its fixed fields (R61 to R65, R67).
-/

namespace Sys2Proof

open Machine

/-- Under `w AND m = c`, bit by bit. -/
theorem bit_of_masked {w m c : Window} (h : w &&& m = c) (k : Nat) : (w.getLsbD k && m.getLsbD k) = c.getLsbD k := by
  rw [← h]
  simp

/-- A field that the mask covers reads as the match says. -/
theorem field_of_masked {w m c : Window} {p n : Nat} {v : BitVec n} (h : w &&& m = c)
    (hv : ∀ i < n, m.getLsbD (72 - p - n + i) = true ∧ c.getLsbD (72 - p - n + i) = v.getLsbD i) :
    memRead w p n = v := by
  apply BitVec.eq_of_getLsbD_eq
  intro i hi
  have hb := bit_of_masked h (72 - p - n + i)
  rw [(hv i hi).1, (hv i hi).2] at hb
  rw [memRead_getLsbD]
  simpa [hi] using hb

/-- A window agrees with the match if its bits under the mask do. -/
theorem masked_of_bits {w m c : Window} (h : ∀ k < 72, m.getLsbD k = true → w.getLsbD k = c.getLsbD k)
    (h0 : ∀ k < 72, m.getLsbD k = false → c.getLsbD k = false) : w &&& m = c := by
  apply BitVec.eq_of_getLsbD_eq
  intro i hi
  have h1 := h i hi
  have h2 := h0 i hi
  rw [BitVec.getLsbD_and]
  cases hm : m.getLsbD i <;> simp_all

/-- The bits of a field from its value. -/
theorem bit_of_field {w : Window} {p n : Nat} {v : BitVec n} (h : memRead w p n = v) (k : Nat) (hk : 72 - p - n ≤ k)
    (hk2 : k < 72 - p - n + n) : w.getLsbD k = v.getLsbD (k - (72 - p - n)) := by
  rw [← h, memRead_getLsbD, show 72 - p - n + (k - (72 - p - n)) = k by omega]
  simp
  omega

/-- R61, R67: the fixed fields of the format. -/
theorem rowChb_selects (w : Window) :
    rowChb.selects w = true
      ↔ memRead w 0 12 = 0xFFF ∧ memRead w 12 4 = 2 ∧ memRead w 16 1 = 0 ∧ memRead w 20 3 = 0 := by
  simp only [FormatRow.selects, rowChb, beq_iff_eq]
  constructor
  · intro h
    exact ⟨field_of_masked h (by decide), field_of_masked h (by decide), field_of_masked h (by decide),
      field_of_masked h (by decide)⟩
  · rintro ⟨h1, h2, h3, h4⟩
    refine masked_of_bits (fun k hk hm => ?_) (by decide)
    by_cases a : 60 ≤ k
    · rw [bit_of_field h1 k (by omega) (by omega)]
      clear h1 h2 h3 h4
      revert k
      decide
    by_cases b : 56 ≤ k
    · rw [bit_of_field h2 k (by omega) (by omega)]
      clear h1 h2 h3 h4
      revert k
      decide
    by_cases c : k = 55
    · rw [bit_of_field h3 k (by omega) (by omega)]
      subst c
      decide
    by_cases d : 49 ≤ k ∧ k ≤ 51
    · rw [bit_of_field h4 k (by omega) (by omega)]
      clear h1 h2 h3 h4
      obtain ⟨d1, d2⟩ := d
      interval_cases k <;> decide
    clear h1 h2 h3 h4
    exfalso
    interval_cases k <;> first | (revert hm; decide) | omega

/-- R61, R67: the fixed fields of the format. -/
theorem rowObj_selects (w : Window) :
    rowObj.selects w = true
      ↔ memRead w 0 12 = 0xFFF ∧ memRead w 12 4 = 2 ∧ memRead w 16 1 = 0 ∧ memRead w 20 3 = 1 ∧ memRead w 35 2 = 0 := by
  simp only [FormatRow.selects, rowObj, beq_iff_eq]
  constructor
  · intro h
    exact ⟨field_of_masked h (by decide), field_of_masked h (by decide), field_of_masked h (by decide),
      field_of_masked h (by decide), field_of_masked h (by decide)⟩
  · rintro ⟨h1, h2, h3, h4, h5⟩
    refine masked_of_bits (fun k hk hm => ?_) (by decide)
    by_cases a : 60 ≤ k
    · rw [bit_of_field h1 k (by omega) (by omega)]
      clear h1 h2 h3 h4 h5
      revert k
      decide
    by_cases b : 56 ≤ k
    · rw [bit_of_field h2 k (by omega) (by omega)]
      clear h1 h2 h3 h4 h5
      revert k
      decide
    by_cases c : k = 55
    · rw [bit_of_field h3 k (by omega) (by omega)]
      subst c
      decide
    by_cases d : 49 ≤ k ∧ k ≤ 51
    · rw [bit_of_field h4 k (by omega) (by omega)]
      clear h1 h2 h3 h4 h5
      obtain ⟨d1, d2⟩ := d
      interval_cases k <;> decide
    by_cases e : 35 ≤ k ∧ k ≤ 36
    · rw [bit_of_field h5 k (by omega) (by omega)]
      clear h1 h2 h3 h4 h5
      obtain ⟨d1, d2⟩ := e
      interval_cases k <;> decide
    clear h1 h2 h3 h4 h5
    exfalso
    interval_cases k <;> first | (revert hm; decide) | omega

/-- R61, R67: the fixed fields of the format. -/
theorem rowMix_selects (w : Window) :
    rowMix.selects w = true
      ↔ memRead w 0 12 = 0xFFF ∧ memRead w 12 4 = 2 ∧ memRead w 16 1 = 0 ∧ memRead w 20 3 = 1 ∧ memRead w 35 2 = 1 := by
  simp only [FormatRow.selects, rowMix, beq_iff_eq]
  constructor
  · intro h
    exact ⟨field_of_masked h (by decide), field_of_masked h (by decide), field_of_masked h (by decide),
      field_of_masked h (by decide), field_of_masked h (by decide)⟩
  · rintro ⟨h1, h2, h3, h4, h5⟩
    refine masked_of_bits (fun k hk hm => ?_) (by decide)
    by_cases a : 60 ≤ k
    · rw [bit_of_field h1 k (by omega) (by omega)]
      clear h1 h2 h3 h4 h5
      revert k
      decide
    by_cases b : 56 ≤ k
    · rw [bit_of_field h2 k (by omega) (by omega)]
      clear h1 h2 h3 h4 h5
      revert k
      decide
    by_cases c : k = 55
    · rw [bit_of_field h3 k (by omega) (by omega)]
      subst c
      decide
    by_cases d : 49 ≤ k ∧ k ≤ 51
    · rw [bit_of_field h4 k (by omega) (by omega)]
      clear h1 h2 h3 h4 h5
      obtain ⟨d1, d2⟩ := d
      interval_cases k <;> decide
    by_cases e : 35 ≤ k ∧ k ≤ 36
    · rw [bit_of_field h5 k (by omega) (by omega)]
      clear h1 h2 h3 h4 h5
      obtain ⟨d1, d2⟩ := e
      interval_cases k <;> decide
    clear h1 h2 h3 h4 h5
    exfalso
    interval_cases k <;> first | (revert hm; decide) | omega

/-- R61, R67: the fixed fields of the format. -/
theorem rowHoa_selects (w : Window) :
    rowHoa.selects w = true
      ↔ memRead w 0 12 = 0xFFF ∧ memRead w 12 4 = 2 ∧ memRead w 16 1 = 0 ∧ memRead w 20 3 = 2 := by
  simp only [FormatRow.selects, rowHoa, beq_iff_eq]
  constructor
  · intro h
    exact ⟨field_of_masked h (by decide), field_of_masked h (by decide), field_of_masked h (by decide),
      field_of_masked h (by decide)⟩
  · rintro ⟨h1, h2, h3, h4⟩
    refine masked_of_bits (fun k hk hm => ?_) (by decide)
    by_cases a : 60 ≤ k
    · rw [bit_of_field h1 k (by omega) (by omega)]
      clear h1 h2 h3 h4
      revert k
      decide
    by_cases b : 56 ≤ k
    · rw [bit_of_field h2 k (by omega) (by omega)]
      clear h1 h2 h3 h4
      revert k
      decide
    by_cases c : k = 55
    · rw [bit_of_field h3 k (by omega) (by omega)]
      subst c
      decide
    by_cases d : 49 ≤ k ∧ k ≤ 51
    · rw [bit_of_field h4 k (by omega) (by omega)]
      clear h1 h2 h3 h4
      obtain ⟨d1, d2⟩ := d
      interval_cases k <;> decide
    clear h1 h2 h3 h4
    exfalso
    interval_cases k <;> first | (revert hm; decide) | omega

end Sys2Proof
end

