-- ==== Sys2Proof/Laws/Framing.lean ====
section
/-!
SUPPORT. What the byte source, the issue of a command and the frame read of the host can do, each said once.
-/

namespace Sys2Proof.Machine

/-! ## The byte source -/

/-- A read gives exactly the bytes asked for and moves the position past them. -/
theorem Source.read_some {src src' : Source} {n : Nat} {bs : List Byte} (h : src.read n = some (bs, src')) :
    bs = (src.bytes.drop src.pos).take n ∧ bs.length = n ∧ src' = { src with pos := src.pos + n } := by
  unfold Source.read at h
  simp only at h
  split at h
  · cases h
    exact ⟨rfl, ‹_›, rfl⟩
  · cases h

/-- Enough bytes are read. -/
theorem Source.read_enough {src : Source} {n : Nat} (h : src.pos + n ≤ src.bytes.length) :
    src.read n = some ((src.bytes.drop src.pos).take n, { src with pos := src.pos + n }) := by
  have hl : ((src.bytes.drop src.pos).take n).length = n := by
    simp
    omega
  simp [Source.read, hl]

/-- Too few bytes are not (R197). -/
theorem Source.read_short {src : Source} {n : Nat} (h : src.bytes.length < src.pos + n) (hn : n ≠ 0) :
    src.read n = none := by
  have hl : ((src.bytes.drop src.pos).take n).length ≠ n := by
    simp
    omega
  simp only [Source.read, hl, if_false]

/-- Seeking back by what was read gives the source as it was (R199). -/
theorem Source.seekBack_of_read {src src' : Source} {n : Nat} {bs : List Byte} (h : src.read n = some (bs, src')) :
    src'.seekBack n = src := by
  obtain ⟨-, -, rfl⟩ := Source.read_some h
  simp [Source.seekBack]

/-- The read of a header is a read of nine bytes that are the window. -/
theorem Source.readHeader_some {src src' : Source} {w : Window} (h : src.readHeader = some (w, src')) :
    ∃ bs, src.read Config.headerBytes = some (bs, src') ∧ windowOfBytes bs = some w := by
  unfold Source.readHeader at h
  split at h
  · rename_i bs src1 hr
    rw [Option.map_eq_some_iff] at h
    obtain ⟨w', hw, he⟩ := h
    cases he
    exact ⟨bs, hr, hw⟩
  · cases h

/-- Seeking back by the header gives the source as it was (R199). -/
theorem Source.seekBack_of_readHeader {src src' : Source} {w : Window} (h : src.readHeader = some (w, src')) :
    src'.seekBack Config.headerBytes = src := by
  obtain ⟨bs, hr, -⟩ := Source.readHeader_some h
  exact Source.seekBack_of_read hr

@[simp] theorem windowBytesOf_length (w : Window) : (windowBytesOf w).length = 9 := by
  simp [windowBytesOf, windowBytes]

/-- Whichever `HDR_IN_LEN`: the emitted frame has the extent of R200 and the source stands at the next header. -/
theorem Source.readRest_some {src src' : Source} {m : HdrInLen} {w : Window} {n a : Nat} {bs : List Byte}
    (ha : src.pos = a + Config.headerBytes) (h : src.readRest m w n = some (bs, src')) :
    bs.length = frameExtent m n ∧ src'.pos = nextHeader m a n := by
  cases m with
  | excluded =>
    simp only [Source.readRest, Option.map_eq_some_iff] at h
    obtain ⟨⟨bs', src1⟩, hr, he⟩ := h
    cases he
    obtain ⟨-, hl, rfl⟩ := Source.read_some hr
    constructor
    · simp [hl, frameExtent, Config.headerBytes]
    · simp [nextHeader, frameExtent, ha]
      omega
  | included =>
    obtain ⟨-, hl, rfl⟩ := Source.read_some h
    exact ⟨hl, by simp [nextHeader, frameExtent, Source.seekBack, ha]⟩

/-! ## Issuing a command -/

/-- A reset of the block by the host gives the state of R240, whatever was before. -/
theorem resetBlock_eq (s : State) :
    resetBlock s = .next ({ s with inputs := [PortSample.reset] } : State).advance.applyReset :=
  step_reset rfl

/-- Nothing to wait for. -/
theorem awaitDone_ready {s : State} (h : s.status ≠ .busy) : awaitDone s = .next s := by simp [awaitDone, h]

/-- While BUSY the host waits for the command in progress to end. -/
theorem awaitDone_busy {s : State} (hd : s.resetDone = true) (h : s.status = .busy) :
    awaitDone s = finish { s with inputs := [], tick := s.tick + 1 } := by
  simp [awaitDone, h, hd, step, clockEdge, State.port, PortSample.quiet, starts, runEdge, State.advance]

/-- A command issued to a block that is not BUSY: its start edge, and the wait for its end. -/
theorem issue_ready {s : State} {p : PortSample} (h : s.status ≠ .busy) :
    issue p s = andThen (step { s with inputs := [p] }) awaitDone := by
  simp [issue, awaitDone_ready h, andThen]

/-! ## The interactions -/

/-- What a frame read can have been (R198, R200). -/
theorem readFrame_frame {m : HdrInLen} {d d' : Driver} {bytes : List Byte} {next : Nat}
    (h : readFrame m d = (.frame bytes next, d')) :
    ∃ w src t, d.source.readHeader = some (w, src) ∧ issue (PortSample.request 2 w) d.block = .next t
      ∧ t.outputs.status = Status.code .ok ∧ src.readRest m w t.outputs.frameBytes.toNat = some (bytes, d'.source)
      ∧ next = d'.source.pos ∧ d'.block = t := by
  unfold readFrame at h
  split at h
  · cases h
  · rename_i w src hh
    split at h
    · rename_i t hi
      split at h
      · rename_i hs
        split at h
        · rename_i bs src' hr
          cases h
          exact ⟨w, src, t, hh, hi, hs, hr, rfl, rfl⟩
        · cases h
      · have hc := congrArg Prod.fst h
        simp only [OutPorts.conclude] at hc
        split at hc
        · cases hc
        · split at hc <;> cases hc
    · cases h
    · cases h

end Sys2Proof.Machine
end

