-- ==== Sys2Proof/Laws/Grammar.lean ====
section
/-!
SUPPORT. One lemma per FSM state: what the state does where its access lies inside the window (R121 to R142).
-/

namespace Sys2Proof.Machine

variable {s : State}

theorem micro_s1Sync (h : s.fsm = .s1Sync) (hp : s.pos.toNat + 12 ≤ 72) :
    micro s = if syncOk (memRead s.w s.pos.toNat 12) then
        .next { s.advancePos 12 with fsm := .s2Codec, record := { s.record with syncWord := some (memRead s.w s.pos.toNat 12) } }
      else .next ((s.advancePos 12).raiseInvalid .sync) := by
  simp [micro, h, stepSync, withRead_inside _ _ hp]

theorem micro_s2Codec (h : s.fsm = .s2Codec) (hp : s.pos.toNat + 4 ≤ 72) :
    micro s = if codecOk (memRead s.w s.pos.toNat 4) then
        .next { s.advancePos 4 with fsm := .s3Anc, record := { s.record with codecId := some (memRead s.w s.pos.toNat 4) } }
      else .next ((s.advancePos 4).raiseInvalid .codec) := by
  simp [micro, h, stepCodec, withRead_inside _ _ hp]

theorem micro_s3Anc (h : s.fsm = .s3Anc) (hp : s.pos.toNat + 1 ≤ 72) :
    micro s = if ancOk (memRead s.w s.pos.toNat 1) then
        .next { s.advancePos 1 with
          fsm := .s4Nn, record := { s.record with ancillaryDataFlag := some (memRead s.w s.pos.toNat 1) } }
      else .next ((s.advancePos 1).raiseInvalid .anc) := by
  simp [micro, h, stepAnc, withRead_inside _ _ hp]

theorem micro_s4Nn (h : s.fsm = .s4Nn) (hp : s.pos.toNat + 3 ≤ 72) :
    micro s = if nnOk s.params (memRead s.w s.pos.toNat 3) then
        .next { s.advancePos 3 with
          fsm := .s5Profile, record := { s.record with neuralNetworkType := some (memRead s.w s.pos.toNat 3) } }
      else .next ((s.advancePos 3).raiseInvalid .nn) := by
  simp [micro, h, stepNn, withRead_inside _ _ hp]
  rfl

theorem micro_s5Profile (h : s.fsm = .s5Profile) (hp : s.pos.toNat + 3 ≤ 72) :
    micro s = .next { s.advancePos 3 with
      fsm := .s6SrIdx, record := { s.record with codingProfile := some (memRead s.w s.pos.toNat 3) } } := by
  simp [micro, h, stepProfile, withRead_inside _ _ hp]

theorem micro_s6SrIdx (h : s.fsm = .s6SrIdx) (hp : s.pos.toNat + 4 ≤ 72) :
    micro s = withEntry (s.advancePos 4) (srate s.params (memRead s.w s.pos.toNat 4)) fun rate =>
      .next { s.advancePos 4 with
        fsm := .s7Skip1
        record := { s.record with samplingRate := some rate, samplingRateIndex := some (memRead s.w s.pos.toNat 4) } } := by
  simp [micro, h, stepSrIdx, withRead_inside _ _ hp]

theorem micro_s7Skip1 (h : s.fsm = .s7Skip1) (hp : s.pos.toNat + 8 ≤ 72) :
    micro s = .next { s.advancePos 8 with fsm := .s8Branch } := by
  simp [micro, h, stepSkip1, withSkip_inside hp]

theorem micro_s8Branch (h : s.fsm = .s8Branch) {p : BitVec 3} (hp : s.record.codingProfile = some p) :
    micro s = if p = 0 then .next { s with fsm := .s8aChCfg } else if p = 1 then .next { s with fsm := .s8bSbType }
      else if p = 2 then .next { s with fsm := .s8cOrder } else .next (s.raiseInvalid .profile) := by
  simp [micro, h, stepBranch, hp]

theorem micro_s8aChCfg (h : s.fsm = .s8aChCfg) (hp : s.pos.toNat + 7 ≤ 72) :
    micro s = withEntry (s.advancePos 7) (chcfg s.params (memRead s.w s.pos.toNat 7)) fun n =>
      .next { s.advancePos 7 with
        fsm := .s9Total
        record := { s.record with
          channelCount := some n, channelConfigIndex := some (memRead s.w s.pos.toNat 7), objectCount := some 0
          contentType := some .channelBased } } := by
  simp [micro, h, stepChCfgA, withRead_inside _ _ hp]

theorem micro_s8bSbType (h : s.fsm = .s8bSbType) (hp : s.pos.toNat + 2 ≤ 72) :
    micro s =
      if memRead s.w s.pos.toNat 2 = 0 then
        .next { s.advancePos 2 with
          fsm := .s8b0ObjCnt, record := { s.record with soundbedType := some 0, contentType := some .objectBased } }
      else if memRead s.w s.pos.toNat 2 = 1 then
        .next { s.advancePos 2 with
          fsm := .s8b1ChCfg, record := { s.record with soundbedType := some 1, contentType := some .channelObject } }
      else .next ((s.advancePos 2).raiseInvalid .soundbed) := by
  simp [micro, h, stepSbType, withRead_inside _ _ hp]

theorem micro_s8b0ObjCnt (h : s.fsm = .s8b0ObjCnt) (hp : s.pos.toNat + 7 ≤ 72) :
    micro s = .next { s.advancePos 7 with
      fsm := .s8b0ObjBr
      record := { s.record with objectCount := some (objectCountOf (memRead s.w s.pos.toNat 7)) } } := by
  simp [micro, h, stepObjCnt0, withRead_inside _ _ hp]

theorem micro_s8b0ObjBr (h : s.fsm = .s8b0ObjBr) (hp : s.pos.toNat + 4 ≤ 72) {n : BitVec 8}
    (hn : s.record.objectCount = some n) :
    micro s = withEntry (s.advancePos 4) (ladder s.params 0 (memRead s.w s.pos.toNat 4) .objBr) fun ob =>
      .next { s.advancePos 4 with
        fsm := .s9Total
        record := { s.record with
          perObjectBitrateIndex := some (memRead s.w s.pos.toNat 4), totalBitrate := some (objectBitrate ob n)
          channelCount := some 0 } } := by
  simp [micro, h, stepObjBr0, withRead_inside _ _ hp, ladderEntry, hn]

theorem micro_s8b1ChCfg (h : s.fsm = .s8b1ChCfg) (hp : s.pos.toNat + 7 ≤ 72) :
    micro s = withEntry (s.advancePos 7) (chcfg s.params (memRead s.w s.pos.toNat 7)) fun n =>
      .next { s.advancePos 7 with
        fsm := .s8b1Br
        record := { s.record with channelCount := some n, channelConfigIndex := some (memRead s.w s.pos.toNat 7) } } := by
  simp [micro, h, stepChCfgB, withRead_inside _ _ hp]

theorem micro_s8b1Br (h : s.fsm = .s8b1Br) (hp : s.pos.toNat + 4 ≤ 72) {c : BitVec 7}
    (hc : s.record.channelConfigIndex = some c) (hl : c.toNat < 15) :
    micro s = withEntry (s.advancePos 4) (ladder s.params c.toNat (memRead s.w s.pos.toNat 4) .br) fun sb =>
      .next { s.advancePos 4 with
        fsm := .s8b1ObjCnt, soundbed := some (ladderBitrate sb)
        record := { s.record with bitrateIndex := some (memRead s.w s.pos.toNat 4) } } := by
  simp [micro, h, stepSoundbedBr, withRead_inside _ _ hp, ladderEntry, hc, hl]

theorem micro_s8b1ObjCnt (h : s.fsm = .s8b1ObjCnt) (hp : s.pos.toNat + 7 ≤ 72) :
    micro s = .next { s.advancePos 7 with
      fsm := .s8b1ObjBr
      record := { s.record with objectCount := some (objectCountOf (memRead s.w s.pos.toNat 7)) } } := by
  simp [micro, h, stepObjCnt1, withRead_inside _ _ hp]

theorem micro_s8b1ObjBr (h : s.fsm = .s8b1ObjBr) (hp : s.pos.toNat + 4 ≤ 72) {n : BitVec 8} {sb : BitVec 64}
    (hn : s.record.objectCount = some n) (hs : s.soundbed = some sb) :
    micro s = withEntry (s.advancePos 4) (ladder s.params 0 (memRead s.w s.pos.toNat 4) .objBr) fun ob =>
      .next { s.advancePos 4 with
        fsm := .s9Total, soundbed := none
        record := { s.record with
          perObjectBitrateIndex := some (memRead s.w s.pos.toNat 4), totalBitrate := some (mixBitrate sb ob n) } } := by
  simp [micro, h, stepObjBr1, withRead_inside _ _ hp, ladderEntry, hn, hs]

theorem micro_s8cOrder (h : s.fsm = .s8cOrder) (hp : s.pos.toNat + 4 ≤ 72) :
    micro s = withEntry (s.advancePos 4) (hoaSlot s.params (memRead s.w s.pos.toNat 4)) fun e =>
      .next { s.advancePos 4 with
        fsm := .s9Total
        record := { s.record with
          ambisonicOrder := some e.order, channelConfigIndex := some e.slot, channelCount := some e.channels
          objectCount := some 0, contentType := some .ambisonic } } := by
  simp [micro, h, stepOrder, withRead_inside _ _ hp]

theorem micro_s9Total (h : s.fsm = .s9Total) {c o : BitVec 8} (hc : s.record.channelCount = some c)
    (ho : s.record.objectCount = some o) :
    micro s = .next { s with
      fsm := .s10Res, record := { s.record with totalChannelCount := some (totalChannels c o) } } := by
  simp [micro, h, stepTotal, hc, ho]

theorem micro_s10Res (h : s.fsm = .s10Res) (hp : s.pos.toNat + 2 ≤ 72) :
    micro s = withEntry (s.advancePos 2) (resolution s.params (memRead s.w s.pos.toNat 2)) fun e =>
      .next { s.advancePos 2 with
        fsm := .s11Br
        record := { s.record with
          resolutionIndex := some (memRead s.w s.pos.toNat 2), resolutionBits := some e.bits
          sampleFormat := some e.fmt } } := by
  simp [micro, h, stepRes, withRead_inside _ _ hp]

theorem micro_s11Br (h : s.fsm = .s11Br) (hp : s.pos.toNat + 4 ≤ 72) {p : BitVec 3} {c : BitVec 7}
    (hpr : s.record.codingProfile = some p) (h1 : p ≠ 1) (hc : s.record.channelConfigIndex = some c)
    (hl : c.toNat < 15) :
    micro s = withEntry (s.advancePos 4) (ladder s.params c.toNat (memRead s.w s.pos.toNat 4) .br) fun b =>
      .next { s.advancePos 4 with
        fsm := .s12Skip2
        record := { s.record with
          totalBitrate := some (ladderBitrate b), bitrateIndex := some (memRead s.w s.pos.toNat 4) } } := by
  have h1' : ¬ p = 1#3 := h1
  simp [micro, h, stepBr, withRead_inside _ _ hp, ladderEntry, hpr, h1', hc, hl]

theorem micro_s12Skip2 (h : s.fsm = .s12Skip2) (hp : s.pos.toNat + 8 ≤ 72) :
    micro s = .next { s.advancePos 8 with fsm := .s13Done } := by
  simp [micro, h, stepSkip2, withSkip_inside hp]

theorem micro_s13Done (h : s.fsm = .s13Done) {b : BitVec 64} {fs : BitVec 32} (hb : s.record.totalBitrate = some b)
    (hf : s.record.samplingRate = some fs) (hd : frameLenDefined b fs = true) :
    micro s = .next { s with frameBytes := some (frameLenBits b fs) }.complete := by
  simp [micro, h, stepDone, hb, hf, hd]

theorem micro_sProbe (h : s.fsm = .sProbe) : micro s = execProbe s := by simp [micro, h]

theorem micro_sFlc (h : s.fsm = .sFlc) : micro s = execFramelen s := by simp [micro, h]

end Sys2Proof.Machine
end

