-- ==== Sys2Proof/Laws/PerInstr.lean ====
section
/-!
SUPPORT. Facts about every instruction as syntax, one lemma per constructor. Family `EncodedLength`: a header is nine
bytes in every format (R60, R66) and a command is one code (R185).
-/

namespace Sys2Proof.Laws.EncodedLength

/-- The number of bytes of an instruction's encoding. -/
def byteCount : Instr → Nat
  | .chb .. => 9
  | .obj .. => 9
  | .mix .. => 9
  | .hoa .. => 9
  | .nop => 1
  | .probe => 1
  | .decode => 1
  | .framelen => 1

/-- The encoding of `i` has that many bytes. -/
def Statement (i : Instr) : Prop := (encode i).bytes.length = byteCount i

theorem chb (nn : BitVec 3) (sr : BitVec 4) (ck1 : BitVec 8) (cc : BitVec 7) (res : BitVec 2) (br : BitVec 4)
    (ck2 : BitVec 8) (pad : BitVec 16) : Statement (.chb nn sr ck1 cc res br ck2 pad) := rfl

theorem obj (nn : BitVec 3) (sr : BitVec 4) (ck1 : BitVec 8) (oc : BitVec 7) (obr : BitVec 4) (res : BitVec 2)
    (ck2 : BitVec 8) (pad : BitVec 14) : Statement (.obj nn sr ck1 oc obr res ck2 pad) := rfl

theorem mix (nn : BitVec 3) (sr : BitVec 4) (ck1 : BitVec 8) (cc : BitVec 7) (br : BitVec 4) (oc : BitVec 7)
    (obr : BitVec 4) (res : BitVec 2) (ck2 : BitVec 8) (pad : BitVec 3) :
    Statement (.mix nn sr ck1 cc br oc obr res ck2 pad) := rfl

theorem hoa (nn : BitVec 3) (sr : BitVec 4) (ck1 : BitVec 8) (ho : BitVec 4) (res : BitVec 2) (br : BitVec 4)
    (ck2 : BitVec 8) (pad : BitVec 19) : Statement (.hoa nn sr ck1 ho res br ck2 pad) := rfl

theorem nop : Statement .nop := rfl

theorem probe : Statement .probe := rfl

theorem decode : Statement .decode := rfl

theorem framelen : Statement .framelen := rfl

end Sys2Proof.Laws.EncodedLength
end

