-- ==== Sys2Proof/Tests/Slice0.lean ====
section
/-!
SUPPORT. Tests of single steps and decodes. Expected values are those of 95_test_vectors.md (the vector is named at
each test), computed there from the rules with the default ROM; words for the decoder are written out from R61 to R65.
-/

namespace Sys2Proof.Tests

open Machine

/-- The next state of an outcome, if there is one. -/
def nextOf (o : Host.Outcome State Fault Refusal) : Option State :=
  match o with
  | .next s => some s
  | .fault _ => none
  | .refused _ => none

/-- The state after reset with window `w` latched. -/
def withWindow (w : Window) : State := { State.reset with w := w }

/-- The state after reset with the operands of FRAMELEN latched. -/
def withOperands (b : BitVec 64) (fs : BitVec 32) : State := { State.reset with flbL := b, flfsL := fs }

/-! ## Decoding -/

/-- V1: sync, codec 2, anc 0, nn 0, profile 0, sr 2, checksum 0, cc 1, res 1, br 5, checksum 0, unread 0 (R61, R62). -/
theorem test_decode_chb_word :
    decodeWindow 0b111111111111001000000000010000000000000001010101000000000000000000000000#72
      = .ok (.chb 0 2 0 1 1 5 0 0) := by decide

/-- V2, with non-zero ignored bits. -/
theorem test_decode_chb_v2 :
    decodeBytes [0xFF, 0xF2, 0x10, 0x74, 0xA0, 0x18, 0x5A, 0xFF, 0xFF] = .ok (.chb 1 3 0xA5 0 1 8 0x5A 0xFFFF) := by decide

/-- V3: profile 1, soundbed 00, oc 3, obr 4, res 2 (R61, R63). -/
theorem test_decode_obj_word :
    decodeWindow 0b111111111111001000000010010000000000000000110100100000000000000000000000#72
      = .ok (.obj 0 2 0 3 4 2 0 0) := by decide

/-- V8: profile 1, soundbed 01, every field non-zero (R61, R64). -/
theorem test_decode_mix_v8 :
    decodeBytes [0xFF, 0xF2, 0x13, 0x00, 0x08, 0xA4, 0xFF, 0x77, 0xFF] = .ok (.mix 1 8 0 10 4 127 11 2 0xFF 7) := by decide

/-- V5: profile 2, ho 2, res 1, br 5 (R61, R65). -/
theorem test_decode_hoa_word :
    decodeWindow 0b111111111111001000000100010000000000010010101000000000000000000000000000#72
      = .ok (.hoa 0 2 0 2 1 5 0 0) := by decide

/-- R185. -/
theorem test_decode_commands :
    [decodeCommand 0, decodeCommand 1, decodeCommand 2, decodeCommand 3] = [.nop, .probe, .decode, .framelen] := by decide

/-- F18, F19, F3, F12, F9: the first fixed field that keeps a window from being a header. -/
theorem test_decode_rejects :
    [decodeWindow 0, decodeWindow (-1), decodeWindow 0xFFF280400055000000, decodeWindow 0xFFF206400055000000,
      decodeWindow 0xFFF202401034800000]
      = [.error .syncWord, .error .codecId, .error .ancillaryFlag, .error .codingProfile, .error .soundbedType] := by
  decide

theorem test_decode_bytes_rejects :
    [decodeBytes [], decodeBytes [4], decodeBytes [0xFF, 0xF2]] = [.error .length, .error .commandBits, .error .length] := by
  decide

/-! ## Well-formedness: one ill-formed header for each check (R69) -/

theorem test_wellFormed_accepts :
    [Instr.chb 0 2 0 1 1 5 0 0, .obj 0 2 0 3 4 2 0 0, .mix 0 2 0 2 3 1 4 1 0 0, .hoa 0 2 0 2 1 5 0 0].all
      (Instr.wellFormed Config.defaultParams) = true := by decide

theorem test_wellFormed_refuses :
    [Instr.chb 2 2 0 1 1 5 0 0, .chb 0 9 0 1 1 5 0 0, .chb 0 2 0 4 1 5 0 0, .chb 0 2 0 14 1 5 0 0, .chb 0 2 0 1 3 5 0 0,
      .chb 0 2 0 1 1 11 0 0, .obj 0 2 0 3 12 2 0 0, .mix 0 2 0 7 4 1 4 1 0 0, .hoa 0 2 0 3 1 5 0 0, .hoa 0 2 0 0 1 5 0 0].any
      (Instr.wellFormed Config.defaultParams) = false := by decide

/-! ## Headers -/

/-- V1. -/
theorem test_chb_v1 :
    (nextOf (exec (.chb 0 2 0 1 1 5 0 0) State.reset)).map
      (fun t => (t.status, t.record.totalBitrate, t.record.totalChannelCount, t.frameBytes, t.pos))
      = some (.ok, some 96000, some 2, some 256, 56) := by decide

/-- F17 with a legal profile: sampling-rate index 9, F5. -/
theorem test_chb_f5 :
    (nextOf (exec (.chb 0 9 0 1 1 5 0 0) State.reset)).map (fun t => (t.status, t.cause, t.record, t.pos))
      = some (.invalid, some .srIdx, Record.empty, 27) := by decide

/-- V7: 128 objects. -/
theorem test_obj_v7 :
    (nextOf (exec (.obj 0 8 0 127 11 0 0 0) State.reset)).map
      (fun t => (t.record.objectCount, t.record.channelConfigIndex, t.record.totalBitrate, t.frameBytes, t.pos))
      = some (some 128, none, some 24576000, some 393216, 58) := by decide

/-- V4. -/
theorem test_mix_v4 :
    (nextOf (exec (.mix 0 2 0 2 3 1 4 1 0 0) State.reset)).map
      (fun t => (t.record.channelCount, t.record.objectCount, t.record.totalBitrate, t.frameBytes, t.pos))
      = some (some 6, some 2, some 512000, some 1366, 69) := by decide

/-- V15. -/
theorem test_hoa_v15 :
    (nextOf (exec (.hoa 0 3 0 1 2 6 0 0) State.reset)).map
      (fun t => (t.record.ambisonicOrder, t.record.channelConfigIndex, t.record.totalBitrate, t.frameBytes, t.pos))
      = some (some 2, some 12, some 640000, some 1858, 53) := by decide

/-! ## Commands -/

/-- A probe hit that DECODE rejects: `FF F0`. -/
theorem test_probe_hit :
    (nextOf (exec .probe (withWindow 0xFFF000000000000000))).map (fun t => (t.status, t.probeHit)) = some (.ok, 1) := by
  decide

/-- `F2 FF`: the byte order matters. -/
theorem test_probe_miss :
    (nextOf (exec .probe (withWindow 0xF2FF00000000000000))).map (fun t => (t.status, t.probeHit)) = some (.ok, 0) := by
  decide

/-- V11 by the state machine. -/
theorem test_decode_v11 :
    (nextOf (exec .decode (withWindow 0xFFF2030008D5FF7000))).map
      (fun t => (t.status, t.record.totalChannelCount, t.record.totalBitrate, t.frameBytes, t.pos))
      = some (.ok, some 144, some 25472000, some 407552, 69) := by decide

/-- F17: profile 5 and sampling-rate index 12, the index check comes first. -/
theorem test_decode_f17 :
    (nextOf (exec .decode (withWindow 0xFFF20B800055000000))).map (fun t => (t.status, t.cause, t.frameBytes, t.pos))
      = some (.invalid, some .srIdx, none, 27) := by decide

/-- L1.1. -/
theorem test_framelen_source_example :
    ((nextOf (exec .framelen (withOperands 128000 44100))).map (·.frameBytes),
      (nextOf (exec .framelen (withOperands 128000 48000))).map (·.frameBytes)) = (some (some 372), some (some 342)) := by
  decide

/-- U7: both edges of the domain. -/
theorem test_framelen_domain :
    ((nextOf (exec .framelen (withOperands 18014398509481984 48000))).map (·.status),
      (nextOf (exec .framelen (withOperands 18014398509481983 1))).map (·.frameBytes))
      = (some .invalid, some (some 2305843009213693824)) := by decide

/-- The `start` with `cmd = 0` of P5 step 7. -/
theorem test_nop :
    (nextOf (step (State.reset.withFetchWord 8 0))).map (fun t => (t.status, t.fsm, t.cmdL)) = some (.idle, .idle, 0) := by
  decide

/-! ## Frame length: F-vectors where the two paths differ -/

theorem test_frameLen_paths :
    [frameLen 256000 44100, frameLen 164000 44100, frameLen 11026 44100, frameLen 128000 22050, frameLen 43 44100,
      frameLen 44 44100, frameLen 376 48000, frameLen 1 48000] = [743, 476, 32, 744, 0, 1, 2, 1] := by decide

/-! ## Steps -/

/-- The first step after reset runs a placed header: V1 by its table word. -/
theorem test_step_header :
    (nextOf (step (State.reset.withFetchWord 72 0xFFF200400055000000))).map (fun t => (t.status, t.frameBytes))
      = some (.ok, some 256) := by decide

/-- P5 step 9: reset of a block in a decode. -/
theorem test_step_reset :
    (nextOf (step { (withWindow 0).startDecode with status := .busy, inputs := [PortSample.reset] })).map
      (fun t => (t.status, t.fsm, t.record)) = some (.idle, .idle, Record.empty) := by decide

/-! ## Witnesses: for each obligation with hypotheses, a concrete state and operands that meet all of them

Words and results are those of 95_test_vectors.md; where an obligation has several clauses, one witness for each, at a
boundary of its range. -/

/-- An outcome whose next state passes a check is a next state that passes it. -/
theorem next_of {o : Host.Outcome State Fault Refusal} {p : State → Bool} (h : (nextOf o).any p = true) :
    ∃ t, o = .next t ∧ p t = true := by
  cases o with
  | next t => exact ⟨t, rfl, h⟩
  | fault r => cases h
  | refused r => cases h

/-- V1, V3, V8, V5 as windows, and F5 (a `CHB` header with sampling-rate index 9). -/
def v1 : Window := 0xFFF200400055000000
def v3 : Window := 0xFFF202400034800000
def v8 : Window := 0xFFF2130008A4FF77FF
def v5 : Window := 0xFFF2044004A8000000
def f5 : Window := 0xFFF201200055000000

/-- A state in the middle of a decode of V1: `S12_SKIP2` at position 48, with what the invariant asks for. -/
def inSkip2 : State :=
  { withWindow v1 with
    status := .busy, fsm := .s12Skip2, cmdL := 2, pos := 48
    record := { Record.empty with
      samplingRate := some 48000, codingProfile := some 0, contentType := some .channelBased
      totalBitrate := some 96000 } }

/-- A running PROBE. -/
def inProbe : State := { withWindow v1 with status := .busy, fsm := .sProbe, cmdL := 1 }

theorem witness_EncodeOfDecodedWindow : decodeWindow v1 = .ok (.chb 0 2 0 1 1 5 0 0) := by decide

theorem witness_FormatSelectedByMaskAndMatch :
    decodeWindow f5 = .ok (.chb 0 9 0 1 1 5 0 0)
      ∧ (Instr.chb 0 9 0 1 1 5 0 0).wellFormed (withWindow f5).params = false := by decide

theorem witness_MemReadSplits :
    1 ≤ 16 ∧ 16 + 16 ≤ 32 ∧ 40 + 16 + 16 ≤ 72
      ∧ (memRead v8 40 32).toNat = (memRead v8 40 16).toNat * 2 ^ 16 + (memRead v8 56 16).toNat := by decide

theorem witness_BytesInAscendingOrderMsbFirst :
    (8 < 9 ∧ 7 < 8 ∧ (memRead v8 71 1).toNat = (windowByte v8 8).toNat / 2 ^ 0 % 2)
      ∧ (7 < 8 ∧ 1 ≤ 8 ∧ (memRead v8 56 16).toNat = (windowByte v8 7).toNat % 2 ^ 8 * 2 ^ 8 + (windowByte v8 8).toNat / 2 ^ 0)
      ∧ (memRead v8 63 2).toNat = (windowByte v8 7).toNat % 2 * 2 + (windowByte v8 8).toNat / 2 ^ 7 := by decide

theorem witness_CursorReadsAndAdvances :
    ({ withWindow v1 with pos := 40 } : State).pos.toNat + 32 ≤ 72
      ∧ (({ withWindow v1 with pos := 40 } : State).advancePos 32).pos = 72 := by decide

/-- The last skip that fits: from 64 to 72. -/
theorem witness_CursorMovesForward :
    ({ inSkip2 with pos := 64 } : State).pos.toNat ≤ 72
      ∧ (nextOf (micro { inSkip2 with pos := 64 })).map (·.pos) = some 72 := by decide

theorem witness_SampleRateIndexer :
    (8#4).toNat < 9 ∧ srate Config.defaultParams 8 = .ok 8000
      ∧ 9 ≤ (9#4).toNat ∧ srate Config.defaultParams 9 = .error .srIdx := by decide

theorem witness_ChannelConfigIndexer :
    [3#7, 6#7, 13#7].map (chcfg Config.defaultParams) = [.ok 8, .ok 4, .ok 16]
      ∧ [4#7, 5#7, 14#7, 127#7].map (chcfg Config.defaultParams)
        = [.error .chCfg, .error .chCfg, .error .chCfg, .error .chCfg] := by decide

theorem witness_AmbisonicSlots :
    hoaSlot Config.defaultParams 2 = .ok ⟨3, 13, 16⟩ ∧ hoaSlot Config.defaultParams 3 = .error .hoa := by decide

theorem witness_LiveLength :
    live Config.defaultParams 0 = 12 ∧ live Config.defaultParams 14 = 0
      ∧ (ladderEntries Config.defaultParams 0)[11]? = some 192000 := by decide

theorem witness_LadderIndexer :
    (11#4).toNat < live Config.defaultParams 0 ∧ ladder Config.defaultParams 0 11 .br = .ok 192000
      ∧ live Config.defaultParams 0 ≤ (12#4).toNat ∧ ladder Config.defaultParams 0 12 .br = .error .br := by decide

theorem witness_ResolutionIndexer :
    resolution Config.defaultParams 2 = .ok ⟨24, 2⟩ ∧ resolution Config.defaultParams 3 = .error .res := by decide

/-- V1. -/
theorem witness_ChbCompletes :
    State.reset.params.nnMin ≤ 0 ∧ 0 ≤ State.reset.params.nnMax ∧ rateAt State.reset.params 2 = some 48000
      ∧ ccLegal 1 = true ∧ channelsAt State.reset.params 1 = some 2 ∧ resolutionAt State.reset.params 1 = some ⟨16, 1⟩
      ∧ (5#4).toNat < live State.reset.params 1 ∧ bitrateAt State.reset.params 1 5 = some 96000 := by decide

/-- V3. -/
theorem witness_ObjCompletes :
    State.reset.params.nnMin ≤ 0 ∧ 0 ≤ State.reset.params.nnMax ∧ rateAt State.reset.params 2 = some 48000
      ∧ (4#4).toNat < live State.reset.params 0 ∧ bitrateAt State.reset.params 0 4 = some 64000
      ∧ resolutionAt State.reset.params 2 = some ⟨24, 2⟩ := by decide

/-- V8. -/
theorem witness_MixCompletes :
    State.reset.params.nnMin ≤ 1 ∧ 1 ≤ State.reset.params.nnMax ∧ rateAt State.reset.params 8 = some 8000
      ∧ ccLegal 10 = true ∧ channelsAt State.reset.params 10 = some 12 ∧ (4#4).toNat < live State.reset.params 10
      ∧ bitrateAt State.reset.params 10 4 = some 832000 ∧ (11#4).toNat < live State.reset.params 0
      ∧ bitrateAt State.reset.params 0 11 = some 192000 ∧ resolutionAt State.reset.params 2 = some ⟨24, 2⟩ := by decide

/-- V5. -/
theorem witness_HoaCompletes :
    State.reset.params.nnMin ≤ 0 ∧ 0 ≤ State.reset.params.nnMax ∧ rateAt State.reset.params 2 = some 48000
      ∧ (2#4).toNat < 3 ∧ resolutionAt State.reset.params 1 = some ⟨16, 1⟩
      ∧ (5#4).toNat < live State.reset.params (11 + 2) ∧ bitrateAt State.reset.params (11 + 2) 5 = some 896000 := by decide

theorem witness_HeaderOkIffWellFormed :
    isHeader (.chb 0 2 0 1 1 5 0 0) = true ∧ (Instr.chb 0 2 0 1 1 5 0 0).wellFormed State.reset.params = true
      ∧ isHeader (.chb 0 9 0 1 1 5 0 0) = true
      ∧ (Instr.chb 0 9 0 1 1 5 0 0).wellFormed State.reset.params = false := by decide

theorem witness_GrammarAgreesWithClosedForm :
    decodeWindow (withWindow v8).w = .ok (.mix 1 8 0 10 4 127 11 2 0xFF 7) := by decide

theorem witness_DecodeWritesFrameLength :
    decodeWindow (withWindow v5).w = .ok (.hoa 0 2 0 2 1 5 0 0)
      ∧ (Instr.hoa 0 2 0 2 1 5 0 0).wellFormed (withWindow v5).params = true := by decide

/-- One window of each content type, for CountsOfADecode. -/
theorem witness_CountsOfADecode :
    [v1, v3, v8, v5].map (fun w =>
        (nextOf (exec .decode (withWindow w))).map fun t => (t.status, t.record.contentType))
      = [some (.ok, some .channelBased), some (.ok, some .objectBased), some (.ok, some .channelObject),
         some (.ok, some .ambisonic)] := by decide

theorem witness_TotalBitrateBelowLimit : ∃ t, exec .decode (withWindow v3) = .next t ∧ (t.status == .ok) = true :=
  next_of (p := fun t => t.status == .ok) (by decide)

/-- V11, where both bounds are reached but for the rate. -/
theorem witness_LargestWithTheDefaultRom :
    (withWindow 0xFFF2030008D5FF7000).params = Config.defaultParams
      ∧ (nextOf (exec .decode (withWindow 0xFFF2030008D5FF7000))).map
          (fun t => (t.status, t.record.totalBitrate, t.frameBytes)) = some (.ok, some 25472000, some 407552) := by
  decide

/-- V1 and the same header with other checksums and unread bits. -/
theorem witness_IgnoredBitsHaveNoInfluence :
    decodeWindow v1 = .ok (.chb 0 2 0 1 1 5 0 0)
      ∧ decodeWindow 0xFFF2005FE055FFFFFF = .ok (.chb 0 2 0xFF 1 1 5 0xFF 0xFFFF)
      ∧ eraseIgnored (.chb 0 2 0 1 1 5 0 0) = eraseIgnored (.chb 0 2 0xFF 1 1 5 0xFF 0xFFFF)
      ∧ (nextOf (exec .decode { State.reset with w := v1 })).isSome = true := by decide

/-- Two states that differ in every other field that a decode could see. -/
theorem witness_DecodeIsAFunctionOfTheWindow :
    (withWindow v1).w = ({ inSkip2 with probeHit := 1, tick := 7 } : State).w
      ∧ (withWindow v1).params = ({ inSkip2 with probeHit := 1, tick := 7 } : State).params := by decide

theorem witness_DecodeFrame :
    (nextOf (exec .decode (withWindow v1))).isSome = true ∧ isHeader (.obj 0 2 0 3 4 2 0 0) = true
      ∧ (nextOf (exec (.obj 0 2 0 3 4 2 0 0) State.reset)).isSome = true := by decide

/-- The edges of the domain of FRAMELEN: its three sides. -/
theorem witness_FramelenResult :
    (withOperands 1 0).flfsL = 0 ∧ 2 ^ 54 ≤ (withOperands 18014398509481984 1).flbL.toNat
      ∧ ¬((withOperands 18014398509481983 1).flfsL = 0 ∨ 2 ^ 54 ≤ (withOperands 18014398509481983 1).flbL.toNat) := by
  decide

theorem witness_NopChangesNothing :
    let s := { State.reset with inputs := [PortSample.request 0 v1] }
    s.resetDone = true ∧ s.port.rst = false ∧ s.port.start = true ∧ s.port.cmd = 0 ∧ s.status ≠ .busy := by decide

theorem witness_FailureEffect :
    (nextOf (exec .decode (withWindow f5))).map (·.status) = some .invalid
      ∧ (nextOf (exec .framelen (withOperands 1 0))).map (·.status) = some .invalid := by decide

theorem witness_ResultRegistersKept :
    [exec .decode (withWindow v1), exec .probe (withWindow v1), exec .framelen (withOperands 128000 44100)].all
      (fun o => (nextOf o).isSome) = true := by decide

/-- Both paths of FrameLen, for FrameLenIsExact, RoundingPathsDiffer, FrameLenCorners and FrameLenFits. -/
theorem witness_FrameLenIsExact : 44100 ≠ 0 ∧ 1 ≠ 0 ∧ frameLen 1 1 = 128 ∧ frameLen 44100 44100 = 128 := by decide

theorem witness_RoundingPathsDiffer :
    ¬ 44100 ∣ 256000 * 1024 ∧ 8 ∣ 256000 * 1024 / 44100 ∧ frameLenSingleCeil 256000 44100 = 743 + 1
      ∧ ¬(¬ 44100 ∣ 44100 * 1024 ∧ 8 ∣ 44100 * 1024 / 44100) ∧ frameLenSingleCeil 44100 44100 = 128 := by decide

theorem witness_FrameLenCorners :
    (1 ≤ 1 ∧ 48000 ≠ 0 ∧ 48000 ≠ 44100) ∧ 43 ≤ 43 ∧ (48000 ≠ 0 ∧ 375 ≤ 376) ∧ (withOperands 1 0).flfsL = 0
      ∧ (nextOf (exec .decode (withWindow v1))).map (·.status) = some .ok := by decide

theorem witness_FrameLenFits : 1 ≤ 1 ∧ 2 ^ 54 - 1 < 2 ^ 54 ∧ frameLen (2 ^ 54 - 1) 1 < 2 ^ 61 := by decide

/-- A DECODE of a header, a DECODE of a window that is none, and a FRAMELEN. -/
theorem witness_StepRunsTheFetchedInstruction :
    [PortSample.request 2 v1, PortSample.request 2 0, PortSample.request 3 0].map (fun p =>
        let s := { State.reset with inputs := [p] }
        (s.resetDone && !s.port.rst && s.port.start && s.status != .busy && s.port.pace == .command, fetch s.port))
      = [(true, .chb 0 2 0 1 1 5 0 0), (true, .decode), (true, .framelen)] := by decide

theorem witness_PlacedWordRuns : encode (.chb 0 2 0 1 1 5 0 0) = .window v1 ∧ isHeader (.chb 0 2 0 1 1 5 0 0) = true := by
  decide

/-- The three clauses: a start (of each command, each way of the inner choices), a NOP, a quiet edge. -/
theorem witness_StartEdge :
    (∀ c ∈ [1#2, 2#2, 3#2], ∀ pace ∈ [Pace.hold, Pace.state],
      let s := { State.reset with inputs := [{ PortSample.request c v1 with pace := pace }] }
      s.resetDone = true ∧ s.port.rst = false ∧ s.status ≠ .busy ∧ s.port.start = true ∧ s.port.cmd ≠ 0 ∧ s.port.pace ≠ .command)
    ∧ (let s := { State.reset with inputs := [PortSample.request 0 v1] }
       s.resetDone = true ∧ s.port.rst = false ∧ s.status ≠ .busy ∧ s.port.start = true ∧ s.port.cmd = 0)
    ∧ State.reset.resetDone = true ∧ State.reset.port.rst = false ∧ State.reset.status ≠ .busy ∧ State.reset.port.start = false
    ∧ State.reset.fsm = .idle := by decide

theorem witness_BusyIgnoresThePorts :
    inProbe.resetDone = true ∧ inProbe.status = .busy ∧ (PortSample.request 2 v8).rst = ({ PortSample.quiet with pace := .command } : PortSample).rst
      ∧ (PortSample.request 2 v8).pace = ({ PortSample.quiet with pace := .command } : PortSample).pace := by decide

/-- A reset, a start before the first reset, and another edge before it. -/
theorem witness_ResetEdge :
    ({ inSkip2 with inputs := [PortSample.reset] } : State).port.rst = true
      ∧ (let s := { State.powerUp Config.defaultParams with inputs := [PortSample.request 1 v1] }
         s.resetDone = false ∧ s.port.rst = false ∧ s.port.start = true)
      ∧ (State.powerUp Config.defaultParams).resetDone = false
      ∧ (State.powerUp Config.defaultParams).port.rst = false
      ∧ (State.powerUp Config.defaultParams).port.start = false := ⟨rfl, ⟨rfl, rfl, rfl⟩, rfl, rfl, rfl⟩

/-- R241, R242: from power-up a command is refused; after a reset by the host it runs. -/
theorem test_power_up :
    issue (PortSample.request 2 v1) (State.powerUp Config.defaultParams) = .refused .commandBeforeReset
      ∧ (nextOf (andThen (resetBlock (State.powerUp Config.defaultParams)) (issue (PortSample.request 2 v1)))).map
          (·.frameBytes) = some (some 256) := by
  constructor
  · unfold issue awaitDone
    split <;> rfl
  · decide

/-- Every state of R15 and every STATUS is among the values before the first reset. -/
theorem test_power_up_values :
    (∀ f : Fin 25, fsmTable[f]? = some (fsmOfPattern (BitVec.ofNat 72 f))) ∧ fsmTable.Nodup
      ∧ [0#2, 1#2, 2#2, 3#2].map (fun c => (statusOfCode c).code) = [0, 1, 2, 3] := by decide

theorem witness_EveryCommandCompletes : Instr.decode ≠ .nop ∧ Instr.framelen ≠ .nop := by decide

theorem witness_OneStateThenTheRest : (nextOf (micro inSkip2)).map (·.fsm) = some .s13Done := by decide

theorem witness_AtomicEqualsStateByState :
    (PortSample.request 2 v1).cmd ≠ 0 ∧ (PortSample.request 1 v1).cmd ≠ 0 ∧ (PortSample.request 3 v1).cmd ≠ 0 := by decide

/-- V1: a start that gets no further, an edge on hold, the fourteen states of a CHB decode edge by edge, and three edges
more. -/
theorem witness_EdgeCountDoesNotMatter :
    let start := { PortSample.request 2 v1 with pace := .hold }
    let rest := { PortSample.quiet with pace := .hold } :: List.replicate 17 PortSample.quiet
    State.reset.Inv = true ∧ start.rst = false ∧ (∀ q ∈ rest, q.rst = false ∧ q.start = false)
      ∧ (nextOf (edges (rest.length + 1) { State.reset with inputs := start :: rest })).map
          (fun t => (t.status, t.frameBytes, t.tick)) = some (.ok, some 256, 19) := by decide

/-- From S12_SKIP2: one state, then the rest. -/
theorem witness_EdgeCountDoesNotMatter_running :
    inSkip2.Inv = true
      ∧ (nextOf (edges 2 { inSkip2 with inputs := [PortSample.quiet, { PortSample.quiet with pace := .command }] })).map
          (·.status) = some .ok := by decide

theorem witness_FsmFollowsTheGrammar : (nextOf (micro inProbe)).map (·.fsm) = some .idle := by decide

theorem witness_Profile1SkipsStep11 :
    let s := { withWindow v3 with fsm := .s11Br, record := { Record.empty with codingProfile := some 1 } }
    s.fsm = .s11Br ∧ s.record.codingProfile = some 1 := by decide

theorem witness_InvariantKept :
    inSkip2.Inv = true ∧ (nextOf (step inSkip2)).map (·.fsm) = some .s13Done
      ∧ inProbe.Inv = true ∧ (nextOf (step { inProbe with inputs := [PortSample.reset] })).map (·.status) = some .idle := by
  decide

theorem witness_InvariantNeverStops : inSkip2.Inv = true ∧ State.reset.Inv = true := by decide

theorem witness_ParametersNeverChange :
    (nextOf (step (State.reset.withFetchWord 72 v1.toNat))).isSome = true := by decide

/-- The state after the decode of a window is not BUSY and its record holds values in every register of its column. -/
def recordComplete (w : Window) (holding : Record → Bool) : Bool :=
  (nextOf (exec .decode (withWindow w))).any fun t => t.status == .ok && t.frameBytes.isSome && holding t.record

/-- Between them V8 (mixed) and V5 (ambisonic) hold a value in each of the 20 registers. -/
theorem witness_PortsShowTheRegisters :
    recordComplete v8 (fun r => r.syncWord.isSome && r.codecId.isSome && r.ancillaryDataFlag.isSome
      && r.neuralNetworkType.isSome && r.codingProfile.isSome && r.samplingRateIndex.isSome && r.samplingRate.isSome
      && r.contentType.isSome && r.soundbedType.isSome && r.channelConfigIndex.isSome && r.channelCount.isSome
      && r.objectCount.isSome && r.totalChannelCount.isSome && r.bitrateIndex.isSome && r.perObjectBitrateIndex.isSome
      && r.totalBitrate.isSome && r.resolutionIndex.isSome && r.resolutionBits.isSome && r.sampleFormat.isSome) = true
    ∧ recordComplete v5 (fun r => r.ambisonicOrder.isSome) = true := by decide

theorem witness_ShortStreamIsTruncation :
    let d : Driver := ⟨⟨[0xFF, 0xF2, 0, 0, 0, 0, 0, 0], 0⟩, State.reset⟩
    d.source.bytes.length < d.source.pos + 9 := by decide

/-- Two frames of V1, whose FRAME_BYTES is 256. -/
theorem witness_WalkHasZeroDrift :
    State.reset.resetDone = true ∧ State.reset.status ≠ .busy
      ∧ ∀ f ∈ [(v1, List.replicate 256 (0 : Byte)), (v1, List.replicate 256 0xFF)],
        ∃ i t n, decodeWindow f.1 = .ok i ∧ exec i State.reset = .next t ∧ t.status = .ok ∧ t.frameBytes = some n
          ∧ f.2.length = n.toNat := by
  refine ⟨rfl, by decide, fun f hf => ?_⟩
  simp only [List.mem_cons, List.not_mem_nil, or_false] at hf
  obtain rfl | rfl := hf
  all_goals exact ⟨.chb 0 2 0 1 1 5 0 0, _, 256, by decide, rfl, rfl, rfl, List.length_replicate⟩

/-- The premises of a session over two frames of V1, from a BUSY block. -/
theorem witness_SessionSeeksBackBeforeTheFirstFrame :
    inSkip2.Inv = true ∧ inSkip2.status = .busy ∧ id true = true
      ∧ [(v1, List.replicate 256 (0 : Byte)), (v1, List.replicate 256 0xFF)] ≠ []
      ∧ ∀ f ∈ [(v1, List.replicate 256 (0 : Byte)), (v1, List.replicate 256 0xFF)],
        ∃ i t n, decodeWindow f.1 = .ok i ∧ exec i inSkip2 = .next t ∧ t.status = .ok ∧ t.frameBytes = some n
          ∧ f.2.length = n.toNat := by
  refine ⟨by decide, rfl, rfl, List.cons_ne_nil _ _, fun f hf => ?_⟩
  simp only [List.mem_cons, List.not_mem_nil, or_false] at hf
  obtain rfl | rfl := hf
  all_goals exact ⟨.chb 0 2 0 1 1 5 0 0, _, 256, by decide, rfl, rfl, rfl, List.length_replicate⟩

/-- A frame read for both values of `HDR_IN_LEN`: 16000 bit/s at 192000 Hz is 11 bytes, by R172. -/
theorem witness_SessionSeeksBackBeforeTheFirstFrame_frame :
    let w : Window := 0xFFF200000000000000
    let bytes := windowBytesOf w ++ [1, 2, 3, 4, 5, 6, 7, 8, 9, 10, 11]
    (readFrame .excluded ⟨⟨bytes, 0⟩, State.reset⟩).1 = .frame bytes 20
      ∧ (readFrame .included ⟨⟨bytes, 0⟩, State.reset⟩).1 = .frame (windowBytesOf w ++ [1, 2]) 11 := by
  decide

/-! ## The host (R195) -/

/-- The host waits for a running decode, then gets the answer of its own probe; the byte source is where it was. -/
theorem test_probe_while_busy :
    (let r := probeStream 0 ⟨⟨[0xFF, 0xF2, 0], 0⟩, inSkip2⟩
     (r.1, r.2.source.pos, r.2.block.status, r.2.block.frameBytes)) = (.probed true, 0, .ok, some 256) := by decide

/-- The example of R190, and an operand that the host must not give. -/
theorem test_length_alone :
    let d : Driver := ⟨⟨[], 0⟩, State.reset⟩
    (nextOf (issue (PortSample.framelen 128000 44100) d.block)).map (·.frameBytes) = some (some 372)
      ∧ (lengthAlone 128000 0 d).1 = .outsideDomain := by decide

end Sys2Proof.Tests
end

/-! # Proofs about the state: what a next state can be

The rules for outcomes, then everything that an FSM state, a run and an instruction can do, each said once. -/

section
namespace Sys2Proof.Machine

open Host (Outcome)

/-! ## Claims about every next state of an outcome -/

/-- Every next state that `o` answers meets `P`. A stop answers none. -/
def Ensures (P : State → Prop) (o : Outcome State Fault Refusal) : Prop := ∀ t, o = .next t → P t

theorem Ensures.mono {P Q : State → Prop} {o : Outcome State Fault Refusal} (h : Ensures P o) (hPQ : ∀ t, P t → Q t) :
    Ensures Q o := fun t ht => hPQ t (h t ht)

@[simp] theorem ensures_next {P : State → Prop} {t : State} : Ensures P (.next t) ↔ P t := by simp [Ensures]

@[simp] theorem ensures_fault {P : State → Prop} {r : Fault} : Ensures P (.fault r) := by simp [Ensures]

theorem ensures_ite {P : State → Prop} {c : Prop} [Decidable c] {a b : Outcome State Fault Refusal}
    (ha : c → Ensures P a) (hb : ¬c → Ensures P b) : Ensures P (if c then a else b) := by
  split
  · exact ha ‹_›
  · exact hb ‹_›

theorem ensures_withRead {P : State → Prop} {n : Nat} {s : State} {k : BitVec n → State → Outcome State Fault Refusal}
    (h : s.pos.toNat + n ≤ 72 → Ensures P (k (memRead s.w s.pos.toNat n) (s.advancePos n))) :
    Ensures P (withRead n s k) := by
  intro t ht
  obtain ⟨hp, hk⟩ := withRead_next ht
  exact h hp t hk

theorem ensures_withSkip {P : State → Prop} {n : Nat} {s : State} {k : State → Outcome State Fault Refusal}
    (h : s.pos.toNat + n ≤ 72 → Ensures P (k (s.advancePos n))) : Ensures P (withSkip n s k) := by
  intro t ht
  obtain ⟨hp, hk⟩ := withSkip_next ht
  exact h hp t hk

theorem ensures_withEntry {P : State → Prop} {α : Type} {s : State} {e : Except Cause α}
    {k : α → Outcome State Fault Refusal} (hok : ∀ v, e = .ok v → Ensures P (k v))
    (herr : ∀ c, e = .error c → P (s.raiseInvalid c)) : Ensures P (withEntry s e k) := by
  cases e with
  | ok v => exact hok v rfl
  | error c => simpa using herr c rfl

theorem cause_of_ladder {P : Config.Params} {c : Nat} {i : BitVec 4} {cause cause' : Cause}
    (h : ladder P c i cause = .error cause') : cause' = cause := by
  obtain ⟨_, he⟩ | ⟨_, he⟩ := ladder_cases P c i cause
  · cases he.symm.trans h
  · cases he.symm.trans h
    rfl

theorem ensures_ladderEntry {P : State → Prop} {s : State} {c : Nat} {i : BitVec 4} {cause : Cause}
    {k : BitVec 32 → Outcome State Fault Refusal} (hok : ∀ b, ladder s.params c i cause = .ok b → Ensures P (k b))
    (herr : P (s.raiseInvalid cause)) : Ensures P (ladderEntry s c i cause k) := by
  refine ensures_ite (fun _ => ensures_withEntry hok fun c' h => ?_) fun _ => ensures_fault
  rwa [cause_of_ladder h]

/-- What every FSM state keeps, a run keeps (R187). -/
theorem ensures_finish {P : State → Prop} (hmicro : ∀ s, P s → Ensures P (micro s)) {s : State} (h : P s) :
    Ensures P (finish s) := by
  have run : ∀ n s, P s → Ensures P (finishWithin n s) := by
    intro n
    induction n with
    | zero => exact fun s hs => ensures_ite (fun _ => ensures_next.2 hs) fun _ => ensures_fault
    | succ n ih =>
      refine fun s hs => ensures_ite (fun _ => ensures_next.2 hs) fun _ => ?_
      split
      · exact ih _ (hmicro s hs _ ‹_›)
      · exact ensures_fault
      · simp [Ensures]
  exact run fsmStates s h

/-! ## Everything that an FSM state can do -/

/-- `n` more bits do not take the cursor out of the window. -/
def State.Within (s : State) (n : Nat) : Prop := s.pos.toNat ≤ 72 → s.pos.toNat + n ≤ 72

/-- What one FSM state can make of `s`. -/
inductive FsmStep (s : State) : State → Prop
  /-- `S_IDLE`: nothing. -/
  | stay (h : s.fsm = .idle) : FsmStep s s
  /-- On to a successor, with the cursor `n` bits further, writing only the record and the temporary of R134. -/
  | move (n : Nat) (f : Fsm) (r : Record) (sb : Option (BitVec 64)) (hp : s.Within n) (hf : f ∈ s.fsm.successors) :
      FsmStep s { s.advancePos n with fsm := f, record := r, soundbed := sb }
  /-- A failed check (R212), after `n` bits. -/
  | fail (n : Nat) (c : Cause) (hp : s.Within n) (hi : .idle ∈ s.fsm.successors) :
      FsmStep s ((s.advancePos n).raiseInvalid c)
  /-- The frame length of a DECODE or a FRAMELEN (R142, R190). -/
  | length (b : BitVec 64) (hi : .idle ∈ s.fsm.successors) : FsmStep s { s with frameBytes := some b }.complete
  /-- The result of a PROBE (R188). -/
  | probe (h : s.fsm = .sProbe) (v : BitVec 1) : FsmStep s { s with probeHit := v }.complete

@[simp] theorem State.advancePos_zero (s : State) : s.advancePos 0 = s := by simp [State.advancePos]

/-! The parts of an FSM state, one rule each; that the next state is a successor is computed at each use. -/

section
variable {s : State} {g : Fsm} {n : Nat}

theorem ensures_read {k : BitVec n → State → Outcome State Fault Refusal}
    (h : s.Within n → ∀ v, Ensures (FsmStep s) (k v (s.advancePos n))) : Ensures (FsmStep s) (withRead n s k) :=
  ensures_withRead fun hp => h (fun _ => hp) _

theorem ensures_skip {k : State → Outcome State Fault Refusal}
    (h : s.Within n → Ensures (FsmStep s) (k (s.advancePos n))) : Ensures (FsmStep s) (withSkip n s k) :=
  ensures_withSkip fun hp => h fun _ => hp

theorem ensures_goOn_soundbed (h : s.fsm = g) {f : Fsm} {r : Record} {sb : Option (BitVec 64)} (hp : s.Within n)
    (hf : f ∈ g.successors := by decide) : Ensures (FsmStep s) (goOn { s.advancePos n with soundbed := sb } f r) :=
  ensures_next.2 (.move n f r sb hp (h ▸ hf))

theorem ensures_goOn (h : s.fsm = g) {f : Fsm} {r : Record} (hp : s.Within n) (hf : f ∈ g.successors := by decide) :
    Ensures (FsmStep s) (goOn (s.advancePos n) f r) :=
  ensures_goOn_soundbed (sb := s.soundbed) h hp hf

/-- Going on without a read. -/
theorem ensures_goOn_here (h : s.fsm = g) {f : Fsm} {r : Record} (hf : f ∈ g.successors := by decide) :
    Ensures (FsmStep s) (goOn s f r) := by
  simpa using ensures_goOn (n := 0) (r := r) h id hf

theorem ensures_failWith (h : s.fsm = g) {c : Cause} (hp : s.Within n) (hi : .idle ∈ g.successors := by decide) :
    Ensures (FsmStep s) (failWith (s.advancePos n) c) :=
  ensures_next.2 (.fail n c hp (h ▸ hi))

/-- A failed check without a read. -/
theorem ensures_failWith_here (h : s.fsm = g) {c : Cause} (hi : .idle ∈ g.successors := by decide) :
    Ensures (FsmStep s) (failWith s c) := by
  simpa using ensures_failWith (n := 0) (c := c) h id hi

/-- An indexer after a read. -/
theorem ensures_entry (h : s.fsm = g) {α : Type} {e : Except Cause α} {k : α → Outcome State Fault Refusal}
    (hp : s.Within n) (hk : ∀ v, Ensures (FsmStep s) (k v)) (hi : .idle ∈ g.successors := by decide) :
    Ensures (FsmStep s) (withEntry (s.advancePos n) e k) :=
  ensures_withEntry (fun v _ => hk v) fun c _ => .fail n c hp (h ▸ hi)

/-- The ladder indexer after a read. -/
theorem ensures_ladder (h : s.fsm = g) {c : Nat} {i : BitVec 4} {cause : Cause}
    {k : BitVec 32 → Outcome State Fault Refusal} (hp : s.Within n) (hk : ∀ b, Ensures (FsmStep s) (k b))
    (hi : .idle ∈ g.successors := by decide) : Ensures (FsmStep s) (ladderEntry (s.advancePos n) c i cause k) :=
  ensures_ladderEntry (fun b _ => hk b) (.fail n cause hp (h ▸ hi))

end

theorem execProbe_fsmStep {s : State} (h : s.fsm = .sProbe) : Ensures (FsmStep s) (execProbe s) :=
  ensures_next.2 (.probe h _)

theorem execFramelen_fsmStep {s : State} (h : .idle ∈ s.fsm.successors) : Ensures (FsmStep s) (execFramelen s) := by
  refine ensures_ite (fun _ => ensures_next.2 (.length _ h)) fun _ => ensures_next.2 ?_
  simpa using FsmStep.fail 0 .flDom id h

/-- Whatever the state, an FSM state does one of the things of `FsmStep`. -/
theorem micro_fsmStep (s : State) : Ensures (FsmStep s) (micro s) := by
  unfold micro
  cases h : s.fsm with
  | idle => exact ensures_next.2 (.stay h)
  | s1Sync | s2Codec | s3Anc | s4Nn =>
    exact ensures_read fun hp _ => ensures_ite (fun _ => ensures_goOn h hp) fun _ => ensures_failWith h hp
  | s5Profile | s8b0ObjCnt | s8b1ObjCnt => exact ensures_read fun hp _ => ensures_goOn h hp
  | s7Skip1 | s12Skip2 => exact ensures_skip fun hp => ensures_goOn h hp
  | s6SrIdx | s8aChCfg | s8b1ChCfg | s8cOrder | s10Res =>
    exact ensures_read fun hp _ => ensures_entry h hp fun _ => ensures_goOn h hp
  | s8b0ObjBr => exact ensures_read fun hp _ => ensures_ladder h hp fun _ => ensures_goOn h hp
  | s8b1Br | s8b1ObjBr => exact ensures_read fun hp _ => ensures_ladder h hp fun _ => ensures_goOn_soundbed h hp
  | s8Branch =>
    exact ensures_ite (fun _ => ensures_goOn_here h) fun _ => ensures_ite (fun _ => ensures_goOn_here h) fun _ =>
      ensures_ite (fun _ => ensures_goOn_here h) fun _ => ensures_failWith_here h
  | s8bSbType =>
    exact ensures_read fun hp _ => ensures_ite (fun _ => ensures_goOn h hp) fun _ =>
      ensures_ite (fun _ => ensures_goOn h hp) fun _ => ensures_failWith h hp
  | s9Total => exact ensures_goOn_here h
  | s11Br =>
    exact ensures_ite (fun _ => ensures_read fun hp _ => ensures_ladder h hp fun _ => ensures_goOn h hp)
      fun _ => ensures_goOn_here h
  | s13Done => exact ensures_ite (fun _ => ensures_next.2 (.length _ (by rw [h]; decide))) fun _ => ensures_fault
  | sProbe => exact execProbe_fsmStep h
  | sFlc => exact execFramelen_fsmStep (by rw [h]; decide)

theorem Fsm.sProbe_notMem_successors (f : Fsm) : .sProbe ∉ f.successors := by cases f <;> decide

/-! ## What no instruction and no FSM state writes -/

/-- The parameters, the latches and the model's own inputs and edge count are the same in both states. -/
structure KeepsInputs (s t : State) : Prop where
  params : t.params = s.params
  cmdL : t.cmdL = s.cmdL
  w : t.w = s.w
  flbL : t.flbL = s.flbL
  flfsL : t.flfsL = s.flfsL
  resetDone : t.resetDone = s.resetDone
  inputs : t.inputs = s.inputs
  tick : t.tick = s.tick

theorem KeepsInputs.refl (s : State) : KeepsInputs s s := ⟨rfl, rfl, rfl, rfl, rfl, rfl, rfl, rfl⟩

theorem KeepsInputs.trans {s t u : State} (h : KeepsInputs s t) (h' : KeepsInputs t u) : KeepsInputs s u :=
  ⟨h'.params.trans h.params, h'.cmdL.trans h.cmdL, h'.w.trans h.w, h'.flbL.trans h.flbL, h'.flfsL.trans h.flfsL,
    h'.resetDone.trans h.resetDone, h'.inputs.trans h.inputs, h'.tick.trans h.tick⟩

theorem KeepsInputs.raiseInvalid {s t : State} (h : KeepsInputs s t) (c : Cause) : KeepsInputs s (t.raiseInvalid c) :=
  h.trans (by constructor <;> simp)

theorem State.startDecode_keepsInputs (s : State) : KeepsInputs s s.startDecode :=
  ⟨rfl, rfl, rfl, rfl, rfl, rfl, rfl, rfl⟩

theorem FsmStep.keepsInputs {s t : State} (h : FsmStep s t) : KeepsInputs s t := by
  cases h with
  | stay => exact .refl s
  | move n => exact ⟨rfl, rfl, rfl, rfl, rfl, rfl, rfl, rfl⟩
  | fail n c => exact .raiseInvalid (s := s) (t := s.advancePos n) ⟨rfl, rfl, rfl, rfl, rfl, rfl, rfl, rfl⟩ c
  | length => exact ⟨rfl, rfl, rfl, rfl, rfl, rfl, rfl, rfl⟩
  | probe => exact ⟨rfl, rfl, rfl, rfl, rfl, rfl, rfl, rfl⟩

theorem FsmStep.probeHit {s t : State} (h : FsmStep s t) (hs : s.fsm ≠ .sProbe) : t.probeHit = s.probeHit := by
  cases h with
  | stay => rfl
  | move => rfl
  | fail => simp
  | length => rfl
  | probe h => exact absurd h hs

theorem FsmStep.mem_successors {s t : State} (h : FsmStep s t) : t.fsm ∈ s.fsm.successors := by
  cases h with
  | stay h => simp [h, Fsm.successors]
  | move _ _ _ _ _ hf => exact hf
  | fail _ _ _ hi => simpa using hi
  | length _ hi => exact hi
  | probe h => simp [h, Fsm.successors]

theorem FsmStep.pos_mono {s t : State} (h : FsmStep s t) (hs : s.pos.toNat ≤ 72) :
    s.pos.toNat ≤ t.pos.toNat ∧ t.pos.toNat ≤ 72 := by
  have moved {n : Nat} (hp : s.Within n) :
      s.pos.toNat ≤ (s.advancePos n).pos.toNat ∧ (s.advancePos n).pos.toNat ≤ 72 := by
    rw [s.advancePos_toNat n (hp hs)]
    exact ⟨Nat.le_add_right _ _, hp hs⟩
  cases h with
  | stay => exact ⟨le_rfl, hs⟩
  | move _ _ _ _ hp => exact moved hp
  | fail n c hp => simpa using moved hp
  | length => exact ⟨le_rfl, hs⟩
  | probe => exact ⟨le_rfl, hs⟩

/-! ## Everything that a header can do -/

/-- How the closed form of a header ends: at a failed check or with success, the cursor in the window (R144, R145). -/
inductive HeaderEnd (s : State) : State → Prop
  | failed (p : Nat) (c : Cause) (hp : p ≤ 72) :
      HeaderEnd s (({ s.startDecode with pos := BitVec.ofNat 7 p } : State).raiseInvalid c)
  | succeeded (p : Nat) (r : Record) (n : BitVec 64) (hp : p ≤ 72) :
      HeaderEnd s ({ s.startDecode with pos := BitVec.ofNat 7 p, record := r, frameBytes := some n } : State).complete

section
variable {s : State} {p : Nat}

theorem ensures_failAt {c : Cause} (hp : p ≤ 72) : Ensures (HeaderEnd s) (s.failAt p c) :=
  ensures_next.2 (.failed p c hp)

theorem ensures_succeedAt {r : Record} {b : BitVec 64} {fs : BitVec 32} (hp : p ≤ 72) :
    Ensures (HeaderEnd s) (s.succeedAt p r b fs) :=
  ensures_next.2 (.succeeded p r _ hp)

theorem ensures_entryAt {α : Type} {e : Except Cause α} {k : α → Outcome State Fault Refusal} (hp : p ≤ 72)
    (hk : ∀ v, Ensures (HeaderEnd s) (k v)) : Ensures (HeaderEnd s) (s.entryAt p e k) := by
  cases e with
  | ok v => exact hk v
  | error c => exact ensures_failAt hp

theorem ensures_prefixThen {nn : BitVec 3} {sr : BitVec 4} {k : BitVec 32 → Outcome State Fault Refusal}
    (hk : ∀ v, Ensures (HeaderEnd s) (k v)) : Ensures (HeaderEnd s) (s.prefixThen nn sr k) :=
  ensures_ite (fun _ => ensures_entryAt (by decide) hk) fun _ => ensures_failAt (by decide)

end

/-- A header ends in one of the ways of `HeaderEnd`. -/
theorem exec_headerEnd {i : Instr} (s : State) (hi : isHeader i = true) : Ensures (HeaderEnd s) (exec i s) := by
  cases i with
  | obj =>
    exact ensures_prefixThen fun _ => ensures_entryAt (by decide) fun _ => ensures_entryAt (by decide) fun _ =>
      ensures_succeedAt (by decide)
  | chb | hoa =>
    exact ensures_prefixThen fun _ => ensures_entryAt (by decide) fun _ => ensures_entryAt (by decide) fun _ =>
      ensures_entryAt (by decide) fun _ => ensures_succeedAt (by decide)
  | mix =>
    exact ensures_prefixThen fun _ => ensures_entryAt (by decide) fun _ => ensures_entryAt (by decide) fun _ =>
      ensures_entryAt (by decide) fun _ => ensures_entryAt (by decide) fun _ => ensures_succeedAt (by decide)
  | nop | probe | decode | framelen => cases hi

theorem HeaderEnd.keepsInputs {s t : State} (h : HeaderEnd s t) : KeepsInputs s t := by
  cases h with
  | failed p c =>
    exact .raiseInvalid (s := s) (t := { s.startDecode with pos := BitVec.ofNat 7 p })
      ⟨rfl, rfl, rfl, rfl, rfl, rfl, rfl, rfl⟩ c
  | succeeded => exact ⟨rfl, rfl, rfl, rfl, rfl, rfl, rfl, rfl⟩

theorem HeaderEnd.probeHit {s t : State} (h : HeaderEnd s t) : t.probeHit = s.probeHit := by
  cases h with
  | failed => simp
  | succeeded => rfl

/-! ## Everything that DECODE can do -/

/-- DECODE never enters S_PROBE, so it keeps PROBE_HIT (R23). -/
theorem execDecode_probeHit (s : State) : Ensures (fun t => t.probeHit = s.probeHit) (execDecode s) := by
  have hmicro (u : State) (hu : u.fsm ≠ .sProbe ∧ u.probeHit = s.probeHit) :
      Ensures (fun t => t.fsm ≠ .sProbe ∧ t.probeHit = s.probeHit) (micro u) := fun t ht =>
    have hstep := micro_fsmStep u t ht
    ⟨fun hf => u.fsm.sProbe_notMem_successors (hf ▸ hstep.mem_successors), (hstep.probeHit hu.1).trans hu.2⟩
  exact (ensures_finish (s := s.startDecode) hmicro ⟨by simp, rfl⟩).mono fun _ h => h.2

theorem execDecode_keepsInputs (s : State) : Ensures (KeepsInputs s) (execDecode s) :=
  ensures_finish (fun u hu t ht => hu.trans (micro_fsmStep u t ht).keepsInputs) s.startDecode_keepsInputs

/-! ## Everything that an instruction can do -/

theorem exec_keepsInputs (i : Instr) (s : State) : Ensures (KeepsInputs s) (exec i s) := by
  cases i with
  | chb | obj | mix | hoa => exact (exec_headerEnd s rfl).mono fun _ => HeaderEnd.keepsInputs
  | nop => exact ensures_next.2 (.refl s)
  | probe => exact ensures_next.2 ⟨rfl, rfl, rfl, rfl, rfl, rfl, rfl, rfl⟩
  | decode => exact execDecode_keepsInputs s
  | framelen =>
    exact ensures_ite (fun _ => ensures_next.2 ⟨rfl, rfl, rfl, rfl, rfl, rfl, rfl, rfl⟩)
      fun _ => ensures_next.2 ((KeepsInputs.refl s).raiseInvalid _)

/-- Only PROBE writes PROBE_HIT (R23, R191). -/
theorem exec_probeHit {i : Instr} (s : State) (hi : i ≠ .probe) :
    Ensures (fun t => t.probeHit = s.probeHit) (exec i s) := by
  cases i with
  | chb | obj | mix | hoa => exact (exec_headerEnd s rfl).mono fun _ => HeaderEnd.probeHit
  | nop => exact ensures_next.2 rfl
  | probe => exact absurd rfl hi
  | decode => exact execDecode_probeHit s
  | framelen => exact ensures_ite (fun _ => ensures_next.2 rfl) fun _ => ensures_next.2 (by simp)

/-- FRAMELEN leaves the record and the cursor alone (R191). -/
theorem execFramelen_record_pos (s : State) :
    Ensures (fun t => t.record = s.record ∧ t.pos = s.pos) (execFramelen s) :=
  ensures_ite (fun _ => ensures_next.2 ⟨rfl, rfl⟩) fun _ => ensures_next.2 (by simp)

@[simp] theorem State.begin_params (s : State) (p : PortSample) : (s.begin p).params = s.params := by
  simp only [State.begin, apply_ite State.params, State.startDecode_params, State.latch_params, ite_self]

end Sys2Proof.Machine
end

/-! # Proofs about the state: the invariant

What the invariant says in a state of the grammar and at the end of a command, the ranges of what the indexers answer,
and that every FSM state keeps it. -/

section
namespace Sys2Proof.Machine

open Host (Outcome)

/-! ## The invariant, by the kind of the FSM state -/

/-- The states of a DECODE in progress. -/
def Fsm.inDecode : Fsm → Bool
  | .idle | .sProbe | .sFlc => false
  | _ => true

/-- The states in which the temporary of R134 lives. -/
def Fsm.keepsTemp (f : Fsm) : Bool := f == .s8b1ObjCnt || f == .s8b1ObjBr

/-- The invariant in state `f` of a DECODE. -/
structure State.Decoding (s : State) (f : Fsm) : Prop where
  fsm : s.fsm = f
  resetDone : s.resetDone = true
  busy : s.status = .busy
  cmdL : s.cmdL = 2#2
  pos : s.pos.toNat = f.entryPos s.record
  frameBytes : s.frameBytes = none
  ready : operandsReady f s.record s.soundbed = true
  temp : f.keepsTemp = false → s.soundbed = none

/-- The invariant when no command is in progress. -/
structure State.Resting (s : State) : Prop where
  fsm : s.fsm = .idle
  resetDone : s.resetDone = true
  notBusy : s.status ≠ .busy
  pos : s.pos.toNat ≤ 72
  temp : s.soundbed = none

/-- Every state of the grammar is entered inside the window (R66, R93). -/
theorem Fsm.entryPos_le (f : Fsm) (r : Record) : f.entryPos r ≤ 72 := by
  unfold Fsm.entryPos
  repeat' split
  all_goals omega

/-- The part of the invariant that depends on the kind of the FSM state: the latched command, and for a DECODE where
the cursor stands and that FRAME_BYTES holds no value. -/
def State.placed (s : State) : Bool :=
  match s.fsm with
  | .idle => true
  | .sProbe => s.cmdL == 1#2
  | .sFlc => s.cmdL == 3#2
  | f => s.cmdL == 2#2 && s.pos.toNat == f.entryPos s.record && s.frameBytes.isNone

theorem State.inv_iff (s : State) :
    s.Inv = true ↔ s.resetDone = true ∧ (s.status = .busy ↔ s.fsm ≠ .idle) ∧ s.pos.toNat ≤ 72 ∧ s.placed = true
      ∧ operandsReady s.fsm s.record s.soundbed = true ∧ (s.fsm.keepsTemp = false → s.soundbed = none) := by
  have hInv : s.Inv = (s.resetDone && ((s.status == .busy) == (s.fsm != .idle)) && decide (s.pos.toNat ≤ 72) && s.placed
      && operandsReady s.fsm s.record s.soundbed && (s.soundbed.isNone || s.fsm.keepsTemp)) := by
    rw [Fsm.keepsTemp, ← Bool.or_assoc]
    rfl
  have hbusy : (s.status == .busy) = (s.fsm != .idle) ↔ (s.status = .busy ↔ s.fsm ≠ .idle) := by
    rw [Bool.eq_iff_iff]
    simp
  have htemp : (s.soundbed.isNone || s.fsm.keepsTemp) = true ↔ (s.fsm.keepsTemp = false → s.soundbed = none) := by
    cases s.fsm.keepsTemp <;> simp
  simp only [hInv, Bool.and_eq_true, htemp, beq_iff_eq, hbusy, decide_eq_true_eq, and_assoc]

theorem State.resetDone_of_inv {s : State} (h : s.Inv = true) : s.resetDone = true := (s.inv_iff.1 h).1

theorem State.pos_le_of_inv {s : State} (h : s.Inv = true) : s.pos.toNat ≤ 72 := by
  obtain ⟨-, -, hp, -⟩ := s.inv_iff.1 h
  exact hp

theorem State.temp_of_inv {s : State} (h : s.Inv = true) (hk : s.fsm.keepsTemp = false) : s.soundbed = none := by
  obtain ⟨-, -, -, -, -, ht⟩ := s.inv_iff.1 h
  exact ht hk

theorem State.placed_of_inDecode {s : State} (hd : s.fsm.inDecode = true) :
    s.placed = (s.cmdL == 2#2 && s.pos.toNat == s.fsm.entryPos s.record && s.frameBytes.isNone) := by
  unfold State.placed
  split
  next h => rw [h] at hd; cases hd
  next h => rw [h] at hd; cases hd
  next h => rw [h] at hd; cases hd
  next => rfl

/-- The invariant between commands. -/
theorem State.inv_iff_resting {s : State} (hf : s.fsm = .idle) : s.Inv = true ↔ s.Resting := by
  rw [s.inv_iff]
  constructor
  · rintro ⟨hr, hb, hp, -, -, ht⟩
    exact ⟨hf, hr, fun h => hb.1 h hf, hp, ht (by rw [hf]; rfl)⟩
  · rintro ⟨-, hr, hb, hp, ht⟩
    exact ⟨hr, by simp [hb, hf], hp, by simp [State.placed, hf], by simp [operandsReady, hf], fun _ => ht⟩

/-- The invariant inside a DECODE. -/
theorem State.inv_iff_decoding {s : State} {f : Fsm} (hf : s.fsm = f) (hd : f.inDecode = true) :
    s.Inv = true ↔ s.Decoding f := by
  subst hf
  have hi : s.fsm ≠ .idle := fun h => by rw [h] at hd; cases hd
  rw [s.inv_iff, s.placed_of_inDecode hd]
  simp only [Bool.and_eq_true, beq_iff_eq, Option.isNone_iff_eq_none]
  constructor
  · rintro ⟨hr, hb, -, ⟨⟨hc, hp⟩, hn⟩, ho, ht⟩
    exact ⟨rfl, hr, hb.2 hi, hc, hp, hn, ho, ht⟩
  · rintro ⟨-, hr, hb, hc, hp, hn, ho, ht⟩
    exact ⟨hr, by simp [hb, hi], hp ▸ s.fsm.entryPos_le s.record, ⟨⟨hc, hp⟩, hn⟩, ho, ht⟩

/-! ## The ranges of what the indexers answer -/

theorem rom_sr_ne_zero (P : Config.Params) (i : Nat) (h : i < 9) : P.rom.sr[i] ≠ 0#32 := by
  have hwf := P.wf
  simp only [Config.Rom.wf, Config.Rom.srWf, Bool.and_eq_true, List.all_eq_true] at hwf
  obtain ⟨⟨⟨⟨⟨⟨hall, -⟩, -⟩, -⟩, -⟩, -⟩, -⟩ := hwf
  simpa using hall P.rom.sr[i] (by simp)

theorem rom_cc_ambisonic (P : Config.Params) : P.rom.cc[11] = 4#8 ∧ P.rom.cc[12] = 9#8 ∧ P.rom.cc[13] = 16#8 := by
  have hwf := P.wf
  simp only [Config.Rom.wf, Config.Rom.ccWf, Bool.and_eq_true, beq_iff_eq] at hwf
  obtain ⟨⟨⟨⟨-, ⟨⟨⟨-, h11⟩, h12⟩, h13⟩⟩, -⟩, -⟩, -⟩ := hwf
  exact ⟨h11, h12, h13⟩

/-- HOASLOT succeeds exactly below 3, on the slots 11, 12 and 13 with 4, 9 and 16 channels (R101 (b), R105). -/
theorem hoaSlot_cases (P : Config.Params) (raw : BitVec 4) :
    (raw.toNat < 3 ∧ hoaSlot P raw = .ok { order := BitVec.ofNat 4 (raw.toNat + 1)
                                           slot := BitVec.ofNat 7 (11 + raw.toNat)
                                           channels := BitVec.ofNat 8 ((raw.toNat + 2) ^ 2) })
      ∨ (3 ≤ raw.toNat ∧ hoaSlot P raw = .error .hoa) := by
  obtain ⟨h11, h12, h13⟩ := rom_cc_ambisonic P
  unfold hoaSlot
  by_cases h : raw.toNat < 3
  · refine .inl ⟨h, ?_⟩
    obtain h0 | h1 | h2 : raw.toNat = 0 ∨ raw.toNat = 1 ∨ raw.toNat = 2 := by omega
    · simp [h0, h11]
    · simp [h1, h12]
    · simp [h2, h13]
  · have h' : ¬ raw.toNat + 1 ≤ 3 := by omega
    exact .inr ⟨by omega, by simp [h']⟩

theorem rateOk_of_srate {P : Config.Params} {i : BitVec 4} {rate : BitVec 32} (h : srate P i = .ok rate) :
    rateOk rate = true := by
  obtain ⟨hi, he⟩ | ⟨-, he⟩ := srate_cases P i
  · cases he.symm.trans h
    simpa [rateOk] using rom_sr_ne_zero P i.toNat hi
  · cases he.symm.trans h

theorem cfgOk_of_chcfg {P : Config.Params} {c : BitVec 7} {n : BitVec 8} (h : chcfg P c = .ok n) : cfgOk c = true := by
  obtain ⟨hlt, h4, h5, -⟩ | ⟨-, he⟩ := chcfg_cases P c
  · have h4' : c ≠ 4#7 := fun h => h4 (by simp [h])
    have h5' : c ≠ 5#7 := fun h => h5 (by simp [h])
    simp [cfgOk, ccLegal, hlt, h4', h5']
  · cases he.symm.trans h

theorem toNat_lt_of_cfgOk {c : BitVec 7} (h : cfgOk c = true) : c.toNat < 14 := by
  simp only [cfgOk, ccLegal, Bool.and_eq_true, decide_eq_true_eq] at h
  exact h.1.1

theorem cfgOk_of_hoaSlot {P : Config.Params} {raw : BitVec 4} {e : HoaSlot} (h : hoaSlot P raw = .ok e) :
    cfgOk e.slot = true := by
  obtain ⟨hr, he⟩ | ⟨-, he⟩ := hoaSlot_cases P raw
  · cases he.symm.trans h
    obtain h0 | h1 | h2 : raw.toNat = 0 ∨ raw.toNat = 1 ∨ raw.toNat = 2 := by omega
    · simp only [h0]; decide
    · simp only [h1]; decide
    · simp only [h2]; decide
  · cases he.symm.trans h

/-! ## The counts and bitrates as numbers (R160 to R164): nothing wraps -/

theorem objectCountOf_toNat (raw : BitVec 7) : (objectCountOf raw).toNat = raw.toNat + 1 := by
  simp [objectCountOf]
  omega

theorem totalChannels_toNat (channels objects : BitVec 8) :
    (totalChannels channels objects).toNat = channels.toNat + objects.toNat := by
  simp [totalChannels]
  omega

theorem ladderBitrate_toNat (b : BitVec 32) : (ladderBitrate b).toNat = b.toNat := by
  simp [ladderBitrate]
  omega

theorem bitrate_mul_objects_le (b : BitVec 32) (objects : BitVec 8) :
    b.toNat * objects.toNat ≤ (2 ^ 32 - 1) * (2 ^ 8 - 1) :=
  Nat.mul_le_mul (Nat.le_sub_one_of_lt b.isLt) (Nat.le_sub_one_of_lt objects.isLt)

theorem objectBitrate_toNat (b : BitVec 32) (objects : BitVec 8) :
    (objectBitrate b objects).toNat = b.toNat * objects.toNat := by
  have h := bitrate_mul_objects_le b objects
  simp [objectBitrate]
  omega

theorem mixBitrate_toNat (sb : BitVec 64) (b : BitVec 32) (objects : BitVec 8) (hsb : sb.toNat < 2 ^ 32) :
    (mixBitrate sb b objects).toNat = sb.toNat + b.toNat * objects.toNat := by
  have h := bitrate_mul_objects_le b objects
  have hmix : mixBitrate sb b objects = sb + objectBitrate b objects := rfl
  rw [hmix, BitVec.toNat_add, objectBitrate_toNat]
  omega

/-! ## Every FSM state keeps the invariant -/

/-- `o` answers a next state, and that state meets `P`. -/
def Answers (P : State → Prop) (o : Outcome State Fault Refusal) : Prop := ∃ t, o = .next t ∧ P t

theorem Answers.ensures {P : State → Prop} {o : Outcome State Fault Refusal} (h : Answers P o) : Ensures P o := by
  obtain ⟨t, rfl, ht⟩ := h
  exact ensures_next.2 ht

theorem answers_next {P : State → Prop} {t : State} (h : P t) : Answers P (.next t) := ⟨t, rfl, h⟩

theorem answers_ite {P : State → Prop} {c : Prop} [Decidable c] {a b : Outcome State Fault Refusal}
    (ha : c → Answers P a) (hb : ¬c → Answers P b) : Answers P (if c then a else b) := by
  split
  · exact ha ‹_›
  · exact hb ‹_›

theorem answers_withEntry {P : State → Prop} {α : Type} {s : State} {e : Except Cause α}
    {k : α → Outcome State Fault Refusal} (hok : ∀ v, e = .ok v → Answers P (k v))
    (herr : ∀ c, e = .error c → P (s.raiseInvalid c)) : Answers P (withEntry s e k) := by
  cases e with
  | ok v => exact hok v rfl
  | error c => exact answers_next (herr c rfl)

/-- `o` answers a next state, and that state meets the invariant. -/
abbrev AnswersInv (o : Outcome State Fault Refusal) : Prop := Answers (fun t => t.Inv = true) o

theorem holds_iff {α : Type} {o : Option α} {p : α → Bool} : holds o p = true ↔ ∃ v, o = some v ∧ p v = true := by
  simp [holds, Option.any_eq_true]

@[simp] theorem holds_some {α : Type} (v : α) (p : α → Bool) : holds (some v) p = p v := rfl

section
variable {s : State} {f : Fsm}

/-- Where the record does not matter for the place of the cursor, that it stays in the window is computed. -/
theorem State.Decoding.inside (h : s.Decoding f) {n : Nat}
    (hn : f.entryPos s.record + n ≤ 72 := by simp [Fsm.entryPos]) : s.pos.toNat + n ≤ 72 :=
  h.pos ▸ hn

/-- Going on from a state of a DECODE keeps the invariant if the cursor and the operands are those of the next state. -/
theorem State.Decoding.move (h : s.Decoding f) {n : Nat} {g : Fsm} {r : Record} {sb : Option (BitVec 64)}
    (hg : g.inDecode = true) (hpos : f.entryPos s.record + n = g.entryPos r) (ho : operandsReady g r sb = true)
    (ht : g.keepsTemp = false → sb = none) :
    ({ s.advancePos n with fsm := g, record := r, soundbed := sb } : State).Inv = true := by
  have hp : (s.advancePos n).pos.toNat = g.entryPos r := by
    rw [s.advancePos_toNat n (h.inside (hpos ▸ g.entryPos_le r)), h.pos, hpos]
  exact (State.inv_iff_decoding rfl hg).2 ⟨rfl, h.resetDone, h.busy, h.cmdL, hp, h.frameBytes, ho, ht⟩

/-- A failed check of a DECODE keeps the invariant (R212). -/
theorem State.Decoding.fail (h : s.Decoding f) {n : Nat} {c : Cause} (hn : s.pos.toNat + n ≤ 72)
    (hc : f.keepsTemp = false ∨ c ≠ .flDom) : ((s.advancePos n).raiseInvalid c).Inv = true := by
  have hp := s.advancePos_toNat n hn
  have ht : ((s.advancePos n).raiseInvalid c).soundbed = none := by
    obtain hf | hc := hc
    · simp [h.temp hf]
    · simp [hc]
  exact (State.inv_iff_resting (by simp)).2 ⟨by simp, by simp [h.resetDone], by simp, by simp at hp ⊢; omega, ht⟩

/-- Going on without a read. -/
theorem State.Decoding.moveHere (h : s.Decoding f) {g : Fsm} {r : Record} (hg : g.inDecode = true)
    (hpos : f.entryPos s.record = g.entryPos r) (ho : operandsReady g r s.soundbed = true)
    (hf : f.keepsTemp = false) : ({ s with fsm := g, record := r } : State).Inv = true := by
  simpa using h.move (n := 0) hg hpos ho fun _ => h.temp hf

/-- A read whose value is checked at once. -/
theorem State.Decoding.check (h : s.Decoding f) {n : Nat} {g : Fsm} {r : Record} {c : Cause} {b : Prop} [Decidable b]
    (hg : g.inDecode = true) (hpos : f.entryPos s.record + n = g.entryPos r)
    (ho : operandsReady g r s.soundbed = true) (hf : f.keepsTemp = false) :
    AnswersInv
      (if b then .next { s.advancePos n with fsm := g, record := r } else .next ((s.advancePos n).raiseInvalid c)) :=
  answers_ite (fun _ => answers_next (h.move hg hpos ho fun _ => h.temp hf))
    fun _ => answers_next (h.fail (h.inside (hpos ▸ g.entryPos_le r)) (.inl hf))

/-- A read whose value goes to an indexer. -/
theorem State.Decoding.entry (h : s.Decoding f) {n : Nat} {g : Fsm} {α : Type} {e : Except Cause α} {r : α → Record}
    (hg : g.inDecode = true) (hpos : ∀ v, f.entryPos s.record + n = g.entryPos (r v))
    (ho : ∀ v, e = .ok v → operandsReady g (r v) s.soundbed = true) (hf : f.keepsTemp = false)
    (hn : f.entryPos s.record + n ≤ 72 := by simp [Fsm.entryPos]) :
    AnswersInv (withEntry (s.advancePos n) e fun v => .next { s.advancePos n with fsm := g, record := r v }) :=
  answers_withEntry (fun v hv => answers_next (h.move hg (hpos v) (ho v hv) fun _ => h.temp hf))
    fun _ _ => h.fail (h.inside hn) (.inl hf)

end

/-! ### The cursor of steps 10 to 12, whose place depends on the format -/

theorem entryPos_s10Res_add (r : Record) : Fsm.entryPos .s10Res r + 2 = Fsm.entryPos .s11Br r := by
  unfold Fsm.entryPos
  cases r.contentType with
  | none => rfl
  | some c => cases c <;> rfl

theorem entryPos_s12Skip2_add (r : Record) : Fsm.entryPos .s12Skip2 r + 8 = Fsm.entryPos .s13Done r := by
  unfold Fsm.entryPos
  cases r.contentType with
  | none => rfl
  | some c => cases c <;> rfl

/-- The content type and the profile that go together (R22). -/
theorem Record.profileMatches_cases {r : Record} (hm : r.profileMatches = true) :
    r.contentType = some .channelBased ∧ r.codingProfile = some 0
      ∨ r.contentType = some .objectBased ∧ r.codingProfile = some 1
      ∨ r.contentType = some .channelObject ∧ r.codingProfile = some 1
      ∨ r.contentType = some .ambisonic ∧ r.codingProfile = some 2 := by
  cases hc : r.contentType with
  | none => simp [Record.profileMatches, hc] at hm
  | some c => cases c <;> simpa [Record.profileMatches, hc] using hm

/-- In profile 1 step 11 reads nothing (R140, C1). -/
theorem entryPos_s11Br_profile1 {r : Record} (hm : r.profileMatches = true) (hp : r.codingProfile = some 1) :
    Fsm.entryPos .s11Br r = Fsm.entryPos .s12Skip2 r := by
  obtain ⟨-, h⟩ | ⟨hc, -⟩ | ⟨hc, -⟩ | ⟨-, h⟩ := Record.profileMatches_cases hm
  · cases h.symm.trans hp
  · simp [Fsm.entryPos, hc]
  · simp [Fsm.entryPos, hc]
  · cases h.symm.trans hp

/-- Outside profile 1 step 11 reads four bits (R140). -/
theorem entryPos_s11Br_add {r : Record} (hm : r.profileMatches = true) (hp : r.codingProfile ≠ some 1) :
    Fsm.entryPos .s11Br r + 4 = Fsm.entryPos .s12Skip2 r := by
  obtain ⟨hc, -⟩ | ⟨-, h⟩ | ⟨-, h⟩ | ⟨hc, -⟩ := Record.profileMatches_cases hm
  · simp [Fsm.entryPos, hc]
  · exact absurd h hp
  · exact absurd h hp
  · simp [Fsm.entryPos, hc]

/-- Step 8 tells the profile. -/
theorem Record.codingProfile_of_profileMatches {r : Record} (hm : r.profileMatches = true) :
    ∃ p, r.codingProfile = some p := by
  obtain ⟨-, h⟩ | ⟨-, h⟩ | ⟨-, h⟩ | ⟨-, h⟩ := Record.profileMatches_cases hm
  all_goals exact ⟨_, h⟩

/-! ### The ranges that the grammar hands on -/

theorem objectCountOf_range (raw : BitVec 7) :
    (objectCountOf raw != 0#8 && decide ((objectCountOf raw).toNat ≤ 128)) = true := by
  have h := objectCountOf_toNat raw
  have h0 : objectCountOf raw ≠ 0#8 := fun h0 => by simp [h0] at h
  simp [h0]
  omega

theorem bitrateOk_iff {b : BitVec 64} : bitrateOk b = true ↔ 0 < b.toNat ∧ b.toNat < 2 ^ 40 := by
  simp [bitrateOk, Nat.pos_iff_ne_zero, ← BitVec.toNat_inj]

theorem pos_of_ne_zero {n : Nat} {b : BitVec n} (hb : b ≠ 0#n) : 0 < b.toNat := by
  simpa [Nat.pos_iff_ne_zero, ← BitVec.toNat_inj] using hb

theorem ladderBitrate_pos {b : BitVec 32} (hb : b ≠ 0#32) : 0 < (ladderBitrate b).toNat := by
  rw [ladderBitrate_toNat]
  exact pos_of_ne_zero hb

theorem ladderBitrate_lt (b : BitVec 32) : (ladderBitrate b).toNat < 2 ^ 32 := ladderBitrate_toNat b ▸ b.isLt

theorem ladderBitrate_range {b : BitVec 32} (hb : b ≠ 0#32) :
    (ladderBitrate b != 0#64 && decide ((ladderBitrate b).toNat < 2 ^ 32)) = true := by
  have h0 : ladderBitrate b ≠ 0#64 := fun h => by simpa [h] using ladderBitrate_pos hb
  rw [bne_iff_ne.2 h0, decide_eq_true (ladderBitrate_lt b), Bool.true_and]

theorem ladderBitrate_ok {b : BitVec 32} (hb : b ≠ 0#32) : bitrateOk (ladderBitrate b) = true :=
  bitrateOk_iff.2 ⟨ladderBitrate_pos hb, (ladderBitrate_lt b).trans (by decide)⟩

theorem objectBitrate_ok {b : BitVec 32} {n : BitVec 8} (hb : b ≠ 0#32) (hn : n ≠ 0#8) :
    bitrateOk (objectBitrate b n) = true := by
  have hpos := Nat.mul_pos (pos_of_ne_zero hb) (pos_of_ne_zero hn)
  have hle := bitrate_mul_objects_le b n
  rw [bitrateOk_iff, objectBitrate_toNat]
  omega

theorem mixBitrate_ok {sb : BitVec 64} (b : BitVec 32) (n : BitVec 8) (h0 : sb ≠ 0#64) (hlt : sb.toNat < 2 ^ 32) :
    bitrateOk (mixBitrate sb b n) = true := by
  have hmul := bitrate_mul_objects_le b n
  have hpos := pos_of_ne_zero h0
  rw [bitrateOk_iff, mixBitrate_toNat sb b n hlt]
  omega

/-- What an invariant record holds is in the domain of the frame length (R142, R176). -/
theorem frameLenDefined_of_ok {b : BitVec 64} {fs : BitVec 32} (hb : bitrateOk b = true) (hfs : rateOk fs = true) :
    frameLenDefined b fs = true := by
  obtain ⟨-, hlt⟩ := bitrateOk_iff.1 hb
  rw [frameLenDefined, show (fs != 0#32) = true from hfs, Bool.true_and]
  exact decide_eq_true (hlt.trans (by decide))

/-- In profile 1 step 11 reads nothing and writes nothing (R140, C1). -/
theorem micro_s11Br_profile1 {s : State} (h : s.fsm = .s11Br) (hp : s.record.codingProfile = some 1) :
    micro s = .next { s with fsm := .s12Skip2 } := by
  simp [micro, h, stepBr, hp]

/-! ### The states of the grammar that read what an earlier one wrote -/

section
variable {s : State}

/-- The dispatch on the profile (R128). -/
theorem State.Decoding.s8Branch (h : s.Decoding .s8Branch) : AnswersInv (micro s) := by
  have hready := h.ready
  simp only [operandsReady, Bool.and_eq_true, Option.isSome_iff_exists] at hready
  obtain ⟨⟨hrate, p, hp⟩, -⟩ := hready
  rw [micro_s8Branch h.fsm hp]
  refine answers_ite (fun h0 => answers_next (h.moveHere rfl rfl ?_ rfl)) fun _ =>
    answers_ite (fun h1 => answers_next (h.moveHere rfl rfl ?_ rfl)) fun _ =>
    answers_ite (fun h2 => answers_next (h.moveHere rfl rfl ?_ rfl)) fun _ => answers_next ?_
  · simp [operandsReady, hrate, hp, h0]
  · simp [operandsReady, hrate, hp, h1]
  · simp [operandsReady, hrate, hp, h2]
  · simpa using h.fail (n := 0) (c := .profile) h.inside (.inl rfl)

/-- The object bitrate (R132), which is in range (R164). -/
theorem State.Decoding.s8b0ObjBr (h : s.Decoding .s8b0ObjBr) : AnswersInv (micro s) := by
  have hready := h.ready
  simp only [operandsReady, Bool.and_eq_true, beq_iff_eq, holds_iff] at hready
  obtain ⟨⟨⟨hrate, hp⟩, hc⟩, n, hn, hn0, -⟩ := hready
  rw [micro_s8b0ObjBr h.fsm h.inside hn]
  refine h.entry rfl (fun _ => by simp [Fsm.entryPos, hc]) (fun b hb => ?_) rfl
  have hok := objectBitrate_ok (ladder_ne_zero hb) (bne_iff_ne.1 hn0)
  simp [operandsReady, Record.branchDone, Record.profileMatches, holds_iff.2 hrate, hp, hc, hn, hok]

/-- The bitrate of the soundbed, in its temporary (R134). -/
theorem State.Decoding.s8b1Br (h : s.Decoding .s8b1Br) : AnswersInv (micro s) := by
  have hready := h.ready
  rw [operandsReady, Bool.and_eq_true, holds_iff] at hready
  obtain ⟨hmix, c, hc, hcfg⟩ := hready
  have hp := h.inside (n := 4)
  rw [micro_s8b1Br h.fsm hp hc (Nat.lt_succ_of_lt (toNat_lt_of_cfgOk hcfg))]
  refine answers_withEntry (fun b hb => answers_next (h.move rfl rfl ?_ fun hk => by cases hk))
    fun _ _ => h.fail hp (.inl rfl)
  rw [operandsReady, holds_some, ladderBitrate_range (ladder_ne_zero hb), Bool.and_true]
  exact hmix

/-- The total of soundbed and objects (R136), which is in range (R164). -/
theorem State.Decoding.s8b1ObjBr (h : s.Decoding .s8b1ObjBr) : AnswersInv (micro s) := by
  have hready := h.ready
  simp only [operandsReady, Bool.and_eq_true, beq_iff_eq, holds_iff] at hready
  obtain ⟨⟨⟨⟨⟨hrate, hp⟩, hc⟩, hch⟩, sb, hsb, hsb0, hsblt⟩, n, hn, -⟩ := hready
  have hin := h.inside (n := 4)
  rw [micro_s8b1ObjBr h.fsm hin hn hsb]
  refine answers_withEntry (fun b hb => answers_next (h.move rfl (by simp [Fsm.entryPos, hc]) ?_ fun _ => rfl))
    fun c hc => h.fail hin (.inr ?_)
  · have hok := mixBitrate_ok b n (bne_iff_ne.1 hsb0) (of_decide_eq_true hsblt)
    simp [operandsReady, Record.branchDone, Record.profileMatches, holds_iff.2 hrate, hp, hc, hn, hch, hok]
  · simp [cause_of_ladder hc]

/-- Step 11 (R140), in profile 1 and outside it. -/
theorem State.Decoding.s11Br (h : s.Decoding .s11Br) : AnswersInv (micro s) := by
  have hready := h.ready
  simp only [operandsReady, Record.branchDone, Bool.and_eq_true] at hready
  obtain ⟨hrate, ⟨⟨hm, -⟩, -⟩, hlast⟩ := hready
  obtain ⟨p, hp⟩ := Record.codingProfile_of_profileMatches hm
  by_cases h1 : p = 1
  · subst h1
    rw [micro_s11Br_profile1 h.fsm hp]
    refine answers_next (h.moveHere rfl (entryPos_s11Br_profile1 hm hp) ?_ rfl)
    simpa [operandsReady, hrate, hm, hp] using hlast
  · have hne : s.record.codingProfile ≠ some 1 := by simpa [hp] using h1
    rw [if_neg hne, holds_iff] at hlast
    obtain ⟨c, hc, hcfg⟩ := hlast
    have hpos := entryPos_s11Br_add hm hne
    have hn : Fsm.entryPos .s11Br s.record + 4 ≤ 72 := hpos ▸ Fsm.entryPos_le _ _
    rw [micro_s11Br h.fsm (h.inside hn) hp h1 hc (Nat.lt_succ_of_lt (toNat_lt_of_cfgOk hcfg))]
    refine h.entry rfl (fun _ => hpos) (fun b hb => ?_) rfl hn
    have hok := ladderBitrate_ok (ladder_ne_zero hb)
    rw [operandsReady, holds_some, hok, hrate, Bool.true_and, Bool.and_true]
    exact hm

/-- The end of a DECODE (R142): the frame length is defined. -/
theorem State.Decoding.s13Done (h : s.Decoding .s13Done) : AnswersInv (micro s) := by
  have hready := h.ready
  simp only [operandsReady, Bool.and_eq_true, holds_iff] at hready
  obtain ⟨⟨⟨fs, hfs, hfs0⟩, -⟩, b, hb, hbok⟩ := hready
  rw [micro_s13Done h.fsm hb hfs (frameLenDefined_of_ok hbok hfs0)]
  exact answers_next ((State.inv_iff_resting rfl).2
    ⟨rfl, h.resetDone, by simp, h.pos ▸ Fsm.entryPos_le _ _, h.temp rfl⟩)

end

/-- From every state of a DECODE that meets the invariant, the FSM state answers a next state, which meets it. -/
theorem micro_of_decoding {s : State} {f : Fsm} (h : s.Decoding f) (hd : f.inDecode = true) : AnswersInv (micro s) := by
  have hready := h.ready
  cases f with
  | idle | sProbe | sFlc => cases hd
  | s1Sync =>
    rw [micro_s1Sync h.fsm h.inside]
    exact h.check rfl rfl hready rfl
  | s2Codec =>
    rw [micro_s2Codec h.fsm h.inside]
    exact h.check rfl rfl hready rfl
  | s3Anc =>
    rw [micro_s3Anc h.fsm h.inside]
    exact h.check rfl rfl hready rfl
  | s4Nn =>
    rw [micro_s4Nn h.fsm h.inside]
    exact h.check rfl rfl hready rfl
  | s5Profile =>
    rw [micro_s5Profile h.fsm h.inside]
    exact answers_next (h.move rfl rfl hready fun _ => h.temp rfl)
  | s6SrIdx =>
    rw [micro_s6SrIdx h.fsm h.inside]
    refine h.entry rfl (fun _ => rfl) (fun rate hrate => ?_) rfl
    simpa [operandsReady, rateOk_of_srate hrate] using hready
  | s7Skip1 =>
    rw [micro_s7Skip1 h.fsm h.inside]
    exact answers_next (h.move rfl rfl hready fun _ => h.temp rfl)
  | s8Branch => exact h.s8Branch
  | s8aChCfg =>
    rw [micro_s8aChCfg h.fsm h.inside]
    refine h.entry rfl (fun _ => rfl) (fun n hn => ?_) rfl
    simp [operandsReady] at hready
    simp [operandsReady, Record.branchDone, Record.profileMatches, hready, cfgOk_of_chcfg hn]
  | s8bSbType =>
    have hp := h.inside (n := 2)
    rw [micro_s8bSbType h.fsm hp]
    refine answers_ite (fun _ => answers_next (h.move rfl rfl ?_ fun _ => h.temp rfl)) fun _ =>
      h.check rfl rfl ?_ rfl
    · simpa [operandsReady] using hready
    · simpa [operandsReady] using hready
  | s8b0ObjCnt =>
    rw [micro_s8b0ObjCnt h.fsm h.inside]
    refine answers_next (h.move rfl rfl ?_ fun _ => h.temp rfl)
    rw [operandsReady, holds_some, objectCountOf_range, Bool.and_true]
    exact hready
  | s8b0ObjBr => exact h.s8b0ObjBr
  | s8b1ChCfg =>
    rw [micro_s8b1ChCfg h.fsm h.inside]
    refine h.entry rfl (fun _ => rfl) (fun n hn => ?_) rfl
    simp [operandsReady] at hready
    simp [operandsReady, hready, cfgOk_of_chcfg hn]
  | s8b1Br => exact h.s8b1Br
  | s8b1ObjCnt =>
    rw [micro_s8b1ObjCnt h.fsm h.inside]
    refine answers_next (h.move rfl rfl ?_ fun hk => by cases hk)
    rw [operandsReady, holds_some, objectCountOf_range, Bool.and_true]
    exact hready
  | s8b1ObjBr => exact h.s8b1ObjBr
  | s8cOrder =>
    rw [micro_s8cOrder h.fsm h.inside]
    refine h.entry rfl (fun _ => rfl) (fun n hn => ?_) rfl
    simp [operandsReady] at hready
    simp [operandsReady, Record.branchDone, Record.profileMatches, hready, cfgOk_of_hoaSlot hn]
  | s9Total =>
    have hb := hready
    simp only [operandsReady, Record.branchDone, Bool.and_eq_true, Option.isSome_iff_exists] at hb
    obtain ⟨-, ⟨⟨-, c, hc⟩, o, ho⟩, -⟩ := hb
    rw [micro_s9Total h.fsm hc ho]
    exact answers_next (h.moveHere rfl rfl hready rfl)
  | s10Res =>
    have hpos := entryPos_s10Res_add s.record
    have hn : Fsm.entryPos .s10Res s.record + 2 ≤ 72 := hpos ▸ Fsm.entryPos_le _ _
    rw [micro_s10Res h.fsm (h.inside hn)]
    exact h.entry rfl (fun _ => hpos) (fun _ _ => hready) rfl hn
  | s11Br => exact h.s11Br
  | s12Skip2 =>
    have hpos := entryPos_s12Skip2_add s.record
    rw [micro_s12Skip2 h.fsm (h.inside (hpos ▸ Fsm.entryPos_le _ _))]
    exact answers_next (h.move rfl hpos hready fun _ => h.temp rfl)
  | s13Done => exact h.s13Done

/-- A command that succeeds ends in a state that meets the invariant. -/
theorem State.complete_inv {s : State} (hr : s.resetDone = true) (hp : s.pos.toNat ≤ 72) (ht : s.soundbed = none) :
    s.complete.Inv = true :=
  (State.inv_iff_resting rfl).2 ⟨rfl, hr, by simp, hp, ht⟩

/-- PROBE keeps the invariant. -/
theorem execProbe_of_inv {s : State} (h : s.Inv = true) (hk : s.fsm.keepsTemp = false) :
    AnswersInv (execProbe s) := by
  have hr := State.resetDone_of_inv h
  have hp := State.pos_le_of_inv h
  have ht := State.temp_of_inv h hk
  exact answers_next (State.complete_inv hr hp ht)

/-- FRAMELEN keeps the invariant. -/
theorem execFramelen_of_inv {s : State} (h : s.Inv = true) (hk : s.fsm.keepsTemp = false) :
    AnswersInv (execFramelen s) := by
  have hr := State.resetDone_of_inv h
  have hp := State.pos_le_of_inv h
  have ht := State.temp_of_inv h hk
  exact answers_ite (fun _ => answers_next (State.complete_inv hr hp ht))
    fun _ => answers_next ((State.inv_iff_resting rfl).2 ⟨rfl, hr, by simp, hp, ht⟩)

/-- From every state that meets the invariant, the FSM state answers a next state, which meets it (R93, R142). -/
theorem micro_of_inv {s : State} (h : s.Inv = true) : AnswersInv (micro s) := by
  by_cases hd : s.fsm.inDecode = true
  · exact micro_of_decoding ((State.inv_iff_decoding rfl hd).1 h) hd
  · cases hf : s.fsm with
    | idle =>
      rw [micro, hf]
      exact answers_next h
    | sProbe =>
      rw [micro_sProbe hf]
      exact execProbe_of_inv h (by rw [hf]; rfl)
    | sFlc =>
      rw [micro_sFlc hf]
      exact execFramelen_of_inv h (by rw [hf]; rfl)
    | _ => simp [hf, Fsm.inDecode] at hd

theorem finish_of_inv {s : State} (h : s.Inv = true) : Ensures (fun t => t.Inv = true) (finish s) :=
  ensures_finish (fun _ hu => (micro_of_inv hu).ensures) h

/-! ## Every edge keeps the invariant -/

theorem State.advance_inv (s : State) : s.advance.Inv = s.Inv := rfl

theorem State.applyReset_inv (s : State) : s.applyReset.Inv = true :=
  (State.inv_iff_resting rfl).2 ⟨rfl, rfl, by simp, by simp, rfl⟩

theorem cmd_cases (c : BitVec 2) : c = 0 ∨ c = 1 ∨ c = 2 ∨ c = 3 := by
  revert c
  decide

/-- A start keeps the invariant (R186). -/
theorem State.Resting.begin_inv {s : State} (h : s.Resting) (p : PortSample) : (s.begin p).Inv = true := by
  have hinv := (State.inv_iff_resting h.fsm).2 h
  obtain ⟨-, hr, -, hp, ht⟩ := h
  obtain hc | hc | hc | hc := cmd_cases p.cmd
  · rwa [s.begin_nop p hc]
  · rw [s.begin_probe p hc]
    exact (State.inv_iff _).2 ⟨hr, by simp, hp, by simp [State.placed, hc], rfl, fun _ => ht⟩
  · rw [s.begin_decode p hc]
    exact (State.inv_iff_decoding rfl rfl).2 ⟨rfl, hr, rfl, hc, rfl, rfl, rfl, fun _ => rfl⟩
  · rw [s.begin_framelen p hc]
    exact (State.inv_iff _).2 ⟨hr, by simp, hp, by simp [State.placed, hc], rfl, fun _ => ht⟩

theorem HeaderEnd.inv {s t : State} (h : HeaderEnd s t) (hr : s.resetDone = true) : t.Inv = true := by
  have hpos {p : Nat} (hp : p ≤ 72) : (BitVec.ofNat 7 p).toNat ≤ 72 := by
    rw [BitVec.toNat_ofNat]
    omega
  cases h with
  | failed p c hp =>
    exact (State.inv_iff_resting (by simp)).2 ⟨by simp, by simpa using hr, by simp, by simpa using hpos hp, by simp⟩
  | succeeded p r n hp => exact State.complete_inv hr (hpos hp) rfl

/-- A window that decodes holds a header. -/
theorem isHeader_of_decodeWindow {w : Window} {i : Instr} (h : decodeWindow w = .ok i) : isHeader i = true := by
  unfold decodeWindow at h
  split_ifs at h <;> cases h <;> rfl

/-- DECODE of a window that holds no header fetches DECODE. -/
theorem fetch_noHeader {p : PortSample} {e : Reject} (h : p.cmd = 2) (he : decodeWindow p.win = .error e) :
    fetch p = .decode := by
  simp [fetch, decodeCommand, h, he]

/-- A DECODE fetches a header or DECODE. -/
theorem fetch_decode {p : PortSample} (h : p.cmd = 2) : isHeader (fetch p) = true ∨ fetch p = .decode := by
  cases hw : decodeWindow p.win with
  | ok i => exact .inl (fetch_header h hw ▸ isHeader_of_decodeWindow hw)
  | error e => exact .inr (fetch_noHeader h hw)

/-- A command that is completed at its start edge keeps the invariant. -/
theorem State.Resting.exec_begin_inv {s : State} (h : s.Resting) (p : PortSample) :
    Ensures (fun t => t.Inv = true) (exec (fetch p) (s.begin p)) := by
  have hb := h.begin_inv p
  obtain hc | hc | hc | hc := cmd_cases p.cmd
  · rw [fetch_command (by simp [hc]), hc]
    exact ensures_next.2 hb
  · rw [fetch_command (by simp [hc]), hc]
    exact (execProbe_of_inv hb (by rw [s.begin_probe p hc]; rfl)).ensures
  · obtain hh | hd := fetch_decode hc
    · exact (exec_headerEnd _ hh).mono fun t ht => ht.inv (State.resetDone_of_inv hb)
    · rw [hd]
      rw [s.begin_decode p hc] at hb ⊢
      exact finish_of_inv hb
  · rw [fetch_command (by simp [hc]), hc]
    exact (execFramelen_of_inv hb (by rw [s.begin_framelen p hc]; rfl)).ensures

/-- Between commands a block that meets the invariant is at rest: BUSY exactly while a command is in progress. -/
theorem State.resting_of_starts {s : State} {p : PortSample} (h : s.Inv = true) (hs : starts p s = true) :
    s.Resting := by
  have hb : s.status ≠ .busy := by
    simp only [starts, Bool.and_eq_true, bne_iff_ne] at hs
    exact hs.2
  obtain ⟨-, hbusy, -⟩ := s.inv_iff.1 h
  have hf : s.fsm = .idle := not_not.1 fun hf => hb (hbusy.2 hf)
  exact (State.inv_iff_resting hf).1 h

end Sys2Proof.Machine
end

/-! # Proofs about the state: the results of the legal headers (R22, R144)

Each indexer succeeds on the operands that the statements name, with the entry of the ROM; the closed form of a header
is then evaluated, and its sums and products are those of the natural numbers. -/

section
namespace Sys2Proof.Machine

/-! ## The indexers on legal operands -/

section
variable {P : Config.Params}

theorem nnOk_of_le {nn : BitVec 3} (hmin : P.nnMin ≤ nn) (hmax : nn ≤ P.nnMax) : nnOk P nn = true := by
  simpa [nnOk, BitVec.ule_eq_decide, BitVec.le_def] using ⟨hmin, hmax⟩

theorem srate_of_rateAt {i : BitVec 4} {rate : BitVec 32} (h : rateAt P i = some rate) : srate P i = .ok rate := by
  obtain ⟨hi, he⟩ := Vector.getElem?_eq_some_iff.1 h
  simp [srate, hi, he]

theorem chcfg_of_channelsAt {c : BitVec 7} {n : BitVec 8} (hc : ccLegal c = true) (h : channelsAt P c = some n) :
    chcfg P c = .ok n := by
  obtain ⟨hi, he⟩ := Vector.getElem?_eq_some_iff.1 h
  simp [ccLegal, ← BitVec.toNat_inj] at hc
  simp [chcfg, hc, he]

theorem resolution_of_resolutionAt {i : BitVec 2} {e : Config.ResEntry} (h : resolutionAt P i = some e) :
    resolution P i = .ok e := by
  obtain ⟨hi, he⟩ := Vector.getElem?_eq_some_iff.1 h
  simp [resolution, hi, he]

/-- Below the live length the live entries are those of the ladder (R106). -/
theorem liveEntries_getElem? {c i : Nat} (hi : i < live P c) : (liveEntries P c)[i]? = (ladderEntries P c)[i]? := by
  have hpre : liveEntries P c <+: ladderEntries P c := List.takeWhile_prefix _
  rw [List.getElem?_eq_getElem hi]
  exact (List.prefix_iff_getElem?.1 hpre i hi).symm

theorem ladder_of_bitrateAt {c : Nat} {i : BitVec 4} {cause : Cause} {b : BitVec 32} (hi : i.toNat < live P c)
    (h : bitrateAt P c i = some b) : ladder P c i cause = .ok b := by
  rw [bitrateAt, ← liveEntries_getElem? hi] at h
  simp [ladder, h]

theorem hoaSlot_of_lt {raw : BitVec 4} (h : raw.toNat < 3) :
    hoaSlot P raw = .ok { order := BitVec.ofNat 4 (raw.toNat + 1)
                          slot := BitVec.ofNat 7 (11 + raw.toNat)
                          channels := BitVec.ofNat 8 ((raw.toNat + 2) ^ 2) } := by
  obtain ⟨-, he⟩ | ⟨hge, -⟩ := hoaSlot_cases P raw
  · exact he
  · omega

end

/-! ## The steps of the closed form on legal operands -/

theorem State.prefixThen_ok {s : State} {nn : BitVec 3} {sr : BitVec 4} {rate : BitVec 32}
    {k : BitVec 32 → Host.Outcome State Fault Refusal} (hmin : s.params.nnMin ≤ nn) (hmax : nn ≤ s.params.nnMax)
    (hrate : rateAt s.params sr = some rate) : s.prefixThen nn sr k = k rate := by
  simp [State.prefixThen, State.entryAt, nnOk_of_le hmin hmax, srate_of_rateAt hrate]

@[simp] theorem State.entryAt_ok {α : Type} (s : State) (p : Nat) (v : α)
    (k : α → Host.Outcome State Fault Refusal) : s.entryAt p (.ok v) k = k v := rfl

/-- The end of a header that succeeds, with the bitrate as a number (R142, R144). -/
theorem State.succeedAt_eq {s : State} {p : Nat} {r : Record} {b : BitVec 64} {fs : BitVec 32} {n : Nat}
    (hb : b.toNat = n) : s.succeedAt p r b fs = .next (s.decoded p r (BitVec.ofNat 64 (frameLen n fs.toNat))) := by
  subst hb
  rfl

/-! ## The registers as numbers -/

theorem objectCountOf_eq (raw : BitVec 7) : objectCountOf raw = BitVec.ofNat 8 (raw.toNat + 1) :=
  (BitVec.toNat_eq_nat.1 (objectCountOf_toNat raw)).2

theorem totalChannels_eq {channels objects : BitVec 8} {n : Nat} (h : channels.toNat + objects.toNat = n) :
    totalChannels channels objects = BitVec.ofNat 9 n :=
  (BitVec.toNat_eq_nat.1 ((totalChannels_toNat channels objects).trans h)).2

end Sys2Proof.Machine
end

/-! # Proofs about the state: the cursor, the clock edge, reset and the ports -/

section
namespace Sys2Proof.Machine

/-! ## The clock edge -/

/-- A start edge at which the block gets no further than the start (R186). -/
theorem step_start_only {s : State} (hd : s.resetDone = true) (hr : s.port.rst = false) (hs : s.port.start = true)
    (hb : s.status ≠ .busy) (hp : s.port.pace ≠ .command) : step s = .next (s.advance.begin s.port) := by
  have h : starts s.port s = true := by simp [starts, hr, hs, hb]
  rw [step_after_reset hd hr, if_pos h, startEdge]
  cases hpace : s.port.pace with
  | hold | state => rfl
  | command => exact absurd hpace hp

/-- A start of NOP at any pace changes nothing (R186). -/
theorem step_start_nop {s : State} (hd : s.resetDone = true) (hr : s.port.rst = false) (hs : s.port.start = true)
    (hb : s.status ≠ .busy) (hc : s.port.cmd = 0) : step s = .next s.advance := by
  have hbegin := s.advance.begin_nop s.port hc
  by_cases hp : s.port.pace = .command
  · rw [step_start hd hr hs hb hp, fetch_command (by simp [hc]), hc, hbegin]
    rfl
  · rw [step_start_only hd hr hs hb hp, hbegin]

/-- In S_IDLE an edge gets nowhere (R186). -/
theorem runEdge_idle (p : PortSample) {s : State} (hf : s.fsm = .idle) : runEdge p s = .next s := by
  unfold runEdge
  split
  · rfl
  · rw [micro, hf]
  · exact finishWithin_idle _ _ hf

/-- An edge without a start in S_IDLE changes nothing (R186). -/
theorem step_idle {s : State} (hd : s.resetDone = true) (hr : s.port.rst = false) (hs : s.port.start = false)
    (hf : s.fsm = .idle) : step s = .next s.advance := by
  have h : starts s.port s = false := by simp [starts, hs]
  rw [step_after_reset hd hr, h]
  exact runEdge_idle s.port hf

/-- While BUSY an edge looks at `rst` and at how far the block gets, and at no other port (R13, R191). -/
theorem step_busy {s : State} (hd : s.resetDone = true) (hb : s.status = .busy) :
    step s = if s.port.rst then .next s.advance.applyReset else runEdge s.port s.advance := by
  cases hr : s.port.rst with
  | true => simp [step_reset hr]
  | false =>
    have h : starts s.port s = false := by simp [starts, hb]
    simp [step_after_reset hd hr, h]

/-- Of the ports an edge without a start reads only the pace. -/
theorem runEdge_congr {p q : PortSample} (h : p.pace = q.pace) (s : State) : runEdge p s = runEdge q s := by
  rw [runEdge, runEdge, h]

/-- A BUSY edge that sees the sample `p`. -/
theorem step_busy_cons {s : State} (hd : s.resetDone = true) (hb : s.status = .busy) (p : PortSample)
    (rest : List PortSample) :
    step { s with inputs := p :: rest }
      = if p.rst then .next ({ s with inputs := rest, tick := s.tick + 1 } : State).applyReset
        else runEdge p { s with inputs := rest, tick := s.tick + 1 } :=
  step_busy (s := { s with inputs := p :: rest }) hd hb

/-! ## Reset and ports -/

/-- When not BUSY the port of a register shows the value that it holds (R20). -/
theorem State.shown_some {s : State} (hb : s.status ≠ .busy) (r : Config.Reg) {n : Nat} {o : Option (BitVec n)}
    {v : BitVec n} (h : o = some v) : s.shown r o = v := by
  rw [State.shown, if_neg hb, h, State.readReg_some]

end Sys2Proof.Machine
end

/-! # The obligations of the family of the state -/

section
namespace Sys2Proof.Proofs

open Machine

/-- Settles O8 by the laws of READ and SKIP inside the window. -/
theorem cursorReadsAndAdvances : Obligations.CursorReadsAndAdvances :=
  fun s n h => ⟨s.advancePos_toNat n h, rfl, fun _ h1 h32 => withRead_inside h1 h32 h, fun _ => withSkip_inside h⟩

/-- Settles O9: `FsmStep` only moves the cursor forward, and only inside the window. -/
theorem cursorMovesForward : Obligations.CursorMovesForward :=
  fun s t hs h => (micro_fsmStep s t h).pos_mono hs

/-- Settles O16: every check passes on the legal operands, and the closed form is evaluated. -/
theorem chbCompletes : Obligations.ChbCompletes := by
  intro s nn sr ck1 cc res br ck2 pad rate ch e b hmin hmax hrate hcc hch hres hbr hb
  have hbits := ladderBitrate_toNat b
  have htotal := totalChannels_eq (channels := ch) (objects := 0) rfl
  simp only [exec, execChb, State.prefixThen_ok hmin hmax hrate, chcfg_of_channelsAt hcc hch,
    resolution_of_resolutionAt hres, ladder_of_bitrateAt hbr hb, State.entryAt_ok, State.succeedAt_eq hbits]
  simp only [(BitVec.toNat_eq_nat.1 hbits).2, Record.withTail, htotal]
  rfl

/-- Settles O17, as O16; the product of R161 does not wrap. -/
theorem objCompletes : Obligations.ObjCompletes := by
  intro s nn sr ck1 oc obr res ck2 pad rate e b hmin hmax hrate hbr hb hres
  have hbits : (objectBitrate b (objectCountOf oc)).toNat = b.toNat * (oc.toNat + 1) := by
    rw [objectBitrate_toNat, objectCountOf_toNat]
  have htotal : totalChannels 0 (objectCountOf oc) = BitVec.ofNat 9 (oc.toNat + 1) :=
    totalChannels_eq (by simp [objectCountOf_toNat])
  simp only [exec, execObj, State.prefixThen_ok hmin hmax hrate, ladder_of_bitrateAt hbr hb,
    resolution_of_resolutionAt hres, State.entryAt_ok, State.succeedAt_eq hbits]
  simp only [(BitVec.toNat_eq_nat.1 hbits).2, Record.withTail, htotal, ← objectCountOf_eq]
  rfl

/-- Settles O18, as O16; the sum of R162 does not wrap. -/
theorem mixCompletes : Obligations.MixCompletes := by
  intro s nn sr ck1 cc br oc obr res ck2 pad rate ch e b ob hmin hmax hrate hcc hch hbr hb hobr hob hres
  have hbits : (mixBitrate (ladderBitrate b) ob (objectCountOf oc)).toNat = b.toNat + ob.toNat * (oc.toNat + 1) := by
    rw [mixBitrate_toNat _ _ _ (ladderBitrate_lt b), ladderBitrate_toNat, objectCountOf_toNat]
  have htotal : totalChannels ch (objectCountOf oc) = BitVec.ofNat 9 (ch.toNat + (oc.toNat + 1)) :=
    totalChannels_eq (by rw [objectCountOf_toNat])
  simp only [exec, execMix, State.prefixThen_ok hmin hmax hrate, chcfg_of_channelsAt hcc hch,
    ladder_of_bitrateAt hbr hb, ladder_of_bitrateAt hobr hob, resolution_of_resolutionAt hres, State.entryAt_ok,
    State.succeedAt_eq hbits]
  simp only [(BitVec.toNat_eq_nat.1 hbits).2, Record.withTail, htotal, ← objectCountOf_eq]
  rfl

/-- Settles O19, as O16, with the slot, order and channel count of `hoaSlot_of_lt`. -/
theorem hoaCompletes : Obligations.HoaCompletes := by
  intro s nn sr ck1 ho res br ck2 pad rate e b hmin hmax hrate hho hres hbr hb
  have hslot : (BitVec.ofNat 7 (11 + ho.toNat)).toNat = 11 + ho.toNat := by
    rw [BitVec.toNat_ofNat]
    omega
  have hbits := ladderBitrate_toNat b
  have htotal : totalChannels (BitVec.ofNat 8 ((ho.toNat + 2) ^ 2)) 0 = BitVec.ofNat 9 ((ho.toNat + 2) ^ 2) := by
    refine totalChannels_eq ?_
    have hsq : (ho.toNat + 2) ^ 2 ≤ 4 ^ 2 := Nat.pow_le_pow_left (by omega) 2
    rw [BitVec.toNat_ofNat, Nat.mod_eq_of_lt (by omega)]
    rfl
  simp only [exec, execHoa, State.prefixThen_ok hmin hmax hrate, hoaSlot_of_lt hho, resolution_of_resolutionAt hres,
    hslot, ladder_of_bitrateAt hbr hb, State.entryAt_ok, State.succeedAt_eq hbits]
  simp only [(BitVec.toNat_eq_nat.1 hbits).2, Record.withTail, htotal]
  rfl

/-- Settles O30: no instruction writes the inputs, and only PROBE writes PROBE_HIT. -/
theorem decodeFrame : Obligations.DecodeFrame := by
  intro i s t hi h
  have hkeeps := exec_keepsInputs i s t h
  have hprobe : i ≠ .probe := by rintro rfl; simp [isHeader] at hi
  exact ⟨hkeeps.params, hkeeps.cmdL, hkeeps.w, hkeeps.flbL, hkeeps.flfsL, exec_probeHit s hprobe t h,
    hkeeps.resetDone, hkeeps.inputs, hkeeps.tick⟩

/-- Settles O35, command by command. -/
theorem resultRegistersKept : Obligations.ResultRegistersKept := by
  intro i s t h
  refine ⟨fun hi => exec_probeHit s hi t h, ?_, ?_⟩
  · rintro (rfl | rfl)
    · cases h
      exact ⟨rfl, rfl, rfl⟩
    · cases h
      exact ⟨rfl, rfl, rfl⟩
  · rintro rfl
    exact execFramelen_record_pos s t h

/-- Settles O51: `FsmStep` only goes to successors. -/
theorem fsmFollowsTheGrammar : Obligations.FsmFollowsTheGrammar :=
  fun s t h => (micro_fsmStep s t h).mem_successors

/-- Settles O56: of the edges only those of a command go beyond the block's own fields, and no instruction writes the
parameters. -/
theorem parametersNeverChange : Obligations.ParametersNeverChange := by
  intro s t h
  obtain ⟨-, rfl⟩ | ⟨-, -, -, rfl⟩ | ⟨-, -, -, hexec⟩ | ⟨-, -, -, rfl⟩ | ⟨-, -, -, ⟨-, rfl⟩ | ⟨-, hm⟩ | ⟨-, hf⟩⟩ :=
    step_cases h
  · rfl
  · rfl
  · simpa using (exec_keepsInputs _ _ t hexec).params
  · simp
  · rfl
  · exact (micro_fsmStep _ t hm).keepsInputs.params
  · exact ensures_finish (s := s.advance) (P := fun u => u.params = s.params)
      (fun u hu v hv => (micro_fsmStep u v hv).keepsInputs.params.trans hu) rfl t hf

/-- Settles O40: the laws of the start edge and of the fetch. -/
theorem stepRunsTheFetchedInstruction : Obligations.StepRunsTheFetchedInstruction :=
  fun _ hd hr hs hb hp => ⟨step_start hd hr hs hb hp, fetch_command, fun _ => fetch_header, fun _ => fetch_noHeader⟩

/-- Settles O42: the start of each command, the start of NOP, and the edge without a start. -/
theorem startEdge : Obligations.StartEdge := by
  intro s hd hr hb
  refine ⟨fun hs hc hp => ⟨_, step_start_only hd hr hs hb hp, ?_⟩, fun hs => step_start_nop hd hr hs hb,
    fun hs => step_idle hd hr hs⟩
  obtain h | h | h | h := cmd_cases s.port.cmd
  · exact absurd h hc
  · simp [State.begin_probe _ _ h, h]
  · simp [State.begin_decode _ _ h, h]
  · simp [State.begin_framelen _ _ h, h]

/-- Settles O43: a BUSY edge depends on `rst` and the pace of its sample only. -/
theorem busyIgnoresThePorts : Obligations.BusyIgnoresThePorts := by
  intro s p q rest hd hb hrst hpace
  rw [step_busy_cons hd hb, step_busy_cons hd hb, hrst, runEdge_congr hpace]

/-- Settles O45: the fields of `State.reset` as they are written. -/
theorem resetValues : Obligations.ResetValues := ⟨rfl, rfl, rfl, rfl, rfl, rfl, rfl⟩

/-- Settles O57 by `State.shown_some`, one port at a time. -/
theorem portsShowTheRegisters : Obligations.PortsShowTheRegisters := by
  refine fun s => ⟨rfl, fun hb => ?_⟩
  have shows {r : Config.Reg} {n : Nat} {o : Option (BitVec n)} : ∀ v, o = some v → s.shown r o = v :=
    fun _ h => State.shown_some hb r h
  have content (v : ContentType) (hv : s.record.contentType = some v) : s.outputs.recContentType = v.code :=
    shows v.code (by rw [hv]; rfl)
  exact ⟨shows _ rfl, shows, shows, shows, shows, shows, shows, shows, shows, content, shows, shows, shows, shows,
    shows, shows, shows, shows, shows, shows, shows, shows⟩

/-- Settles O54: the state after reset is what a reset edge makes. -/
theorem invariantAtReset : Obligations.InvariantAtReset :=
  State.reset.applyReset_inv

/-- Settles O53, edge by edge: a reset, a start, a command completed at its start, and a command in progress, where
every FSM state keeps the invariant (`micro_of_inv`). -/
theorem invariantKept : Obligations.InvariantKept := by
  intro s t h hstep
  have ha : s.advance.Inv = true := s.advance_inv.trans h
  obtain ⟨-, rfl⟩ | ⟨-, hr, -⟩ | ⟨-, hs, -, hexec⟩ | ⟨-, hs, -, rfl⟩ | ⟨-, -, -, ⟨-, rfl⟩ | ⟨-, hm⟩ | ⟨-, hf⟩⟩ :=
    step_cases hstep
  · exact s.advance.applyReset_inv
  · simp [State.resetDone_of_inv h] at hr
  · exact (State.resting_of_starts ha hs).exec_begin_inv s.port t hexec
  · exact (State.resting_of_starts ha hs).begin_inv s.port
  · exact ha
  · exact (micro_of_inv ha).ensures t hm
  · exact finish_of_inv ha t hf

end Sys2Proof.Proofs
end

/-! # Proofs about the window: reads within reads, bytes, and the probe's read (R44 to R46) -/

section
namespace Sys2Proof.Machine

theorem toNat_append_eq_add {n m : Nat} (x : BitVec n) (y : BitVec m) :
    (x ++ y).toNat = x.toNat * 2 ^ m + y.toNat := by
  rw [BitVec.toNat_append, ← Nat.shiftLeft_add_eq_or_of_lt y.isLt, Nat.shiftLeft_eq]

/-! ## Reads within reads -/

/-- A read is its first `n` bits followed by the other `m` (R46). -/
theorem memRead_append (w : Window) {p n m : Nat} (h : p + n + m ≤ 72) :
    memRead w p (n + m) = memRead w p n ++ memRead w (p + n) m := by
  have hp : 72 - p - n = 72 - (p + n) - m + m := by omega
  rw [memRead, memRead, memRead, windowBits, BitVec.extractLsb'_append_extractLsb'_eq_extractLsb' hp, Nat.sub_sub,
    Nat.sub_sub, Nat.add_assoc]

theorem memRead_add_toNat (w : Window) {p n m : Nat} (h : p + n + m ≤ 72) :
    (memRead w p (n + m)).toNat = (memRead w p n).toNat * 2 ^ m + (memRead w (p + n) m).toNat := by
  rw [memRead_append w h, toNat_append_eq_add]

/-- The middle `n` bits of a read of `a + n + b` bits. -/
theorem memRead_middle_toNat (w : Window) {p a n b : Nat} (h : p + (a + n + b) ≤ 72) :
    (memRead w (p + a) n).toNat = (memRead w p (a + n + b)).toNat / 2 ^ b % 2 ^ n := by
  have hshift : 72 - (p + a) - n = 72 - p - (a + n + b) + b := by omega
  rw [memRead_toNat, memRead_toNat, hshift, Nat.pow_add, ← Nat.div_div_eq_div_mul, Nat.pow_add _ _ b, Nat.mul_comm,
    Nat.mod_mul_right_div_self, Nat.pow_add, Nat.mod_mul_left_mod]

/-! ## Bytes -/

/-- A field inside byte `k` (R44). -/
theorem memRead_inside_byte (w : Window) {k a n b : Nat} (hk : k < 9) (h : a + n + b = 8) :
    (memRead w (8 * k + a) n).toNat = (windowByte w k).toNat / 2 ^ b % 2 ^ n := by
  rw [memRead_middle_toNat w (b := b) (by omega), h, windowByte]

/-- The last `n` bits of byte `k` (R44). -/
theorem memRead_end_of_byte (w : Window) {k n : Nat} (hk : k < 9) (hn : n ≤ 8) :
    (memRead w (8 * k + (8 - n)) n).toNat = (windowByte w k).toNat % 2 ^ n := by
  rw [memRead_inside_byte w hk (b := 0) (by omega), Nat.pow_zero, Nat.div_one]

/-- The first `m` bits of byte `k` (R44). -/
theorem memRead_start_of_byte (w : Window) {k m : Nat} (hk : k < 9) (hm : m ≤ 8) :
    (memRead w (8 * k) m).toNat = (windowByte w k).toNat / 2 ^ (8 - m) := by
  have hlt : (windowByte w k).toNat / 2 ^ (8 - m) < 2 ^ m :=
    Nat.div_lt_of_lt_mul (by simpa [← Nat.pow_add, hm] using (windowByte w k).isLt)
  rw [← Nat.add_zero (8 * k), memRead_inside_byte w hk (b := 8 - m) (by omega), Nat.mod_eq_of_lt hlt]

/-- A window is its nine bytes as the digits of a number to the base 256. -/
theorem windowOfNine_toNat (b0 b1 b2 b3 b4 b5 b6 b7 b8 : Byte) :
    (windowOfNine b0 b1 b2 b3 b4 b5 b6 b7 b8).toNat
      = Nat.ofDigits 256 ([b8, b7, b6, b5, b4, b3, b2, b1, b0].map BitVec.toNat) := by
  -- The width of a window is the numeral 72; the law of `++` needs it as a sum.
  change BitVec.toNat (w := 8 + 8 + 8 + 8 + 8 + 8 + 8 + 8 + 8) _ = _
  simp only [windowOfNine, toNat_append_eq_add, List.map, Nat.ofDigits_cons, Nat.ofDigits_nil]
  ring

theorem windowByte_windowOfNine (b0 b1 b2 b3 b4 b5 b6 b7 b8 : Byte) :
    (List.range 9).map (windowByte (windowOfNine b0 b1 b2 b3 b4 b5 b6 b7 b8))
      = [b0, b1, b2, b3, b4, b5, b6, b7, b8] := by
  simp [List.range_succ, windowByte, ← BitVec.toNat_inj, memRead_toNat, windowOfNine_toNat, Nat.ofDigits_cons]
  omega

/-! ## The probe's read -/

/-- The probe reads the first 16 bits (R45). -/
theorem probeWord_eq_memRead (w : Window) : probeWord w = memRead w 0 16 :=
  (memRead_append w (by decide)).symm

/-- Without its last four bits the probe's read is that of step 1 (R45). -/
theorem probeWord_ushiftRight (w : Window) : probeWord w >>> 4 = (memRead w 0 12).setWidth 16 := by
  have hsplit := memRead_add_toNat w (p := 0) (n := 12) (m := 4) (by decide)
  have hlow := (memRead w (0 + 12) 4).isLt
  rw [probeWord_eq_memRead, ← BitVec.toNat_inj, BitVec.toNat_ushiftRight, Nat.shiftRight_eq_div_pow,
    BitVec.toNat_setWidth_of_le (by decide), hsplit]
  omega

end Sys2Proof.Machine
end

/-! # The obligations of the family of the memory -/

section
namespace Sys2Proof.Proofs

open Machine

/-- Settles O5: a read is the concatenation of its two parts. -/
theorem memReadSplits : Obligations.MemReadSplits :=
  fun w _ _ _ _ _ _ h => memRead_add_toNat w h

/-- Settles O6: a single bit lies inside a byte, and a field that crosses is the end of one byte and the start of the
next. -/
theorem bytesInAscendingOrderMsbFirst : Obligations.BytesInAscendingOrderMsbFirst := by
  refine ⟨fun w k j hk hj => ?_, windowByte_windowOfNine, fun w k n m hk _ hn _ hm => ?_⟩
  · exact memRead_inside_byte w hk (by omega)
  · have hnext : 8 * k + (8 - n) + n = 8 * (k + 1) := by omega
    rw [memRead_add_toNat w (by omega), hnext, memRead_end_of_byte w (by omega) hn,
      memRead_start_of_byte w (by omega) hm]

/-- Settles O7: the shifted read of the probe is the 12-bit read of step 1, zero-extended. -/
theorem probeReadsTheSyncBits : Obligations.ProbeReadsTheSyncBits := by
  intro w
  refine ⟨toNat_append_eq_add _ _, ?_, ?_⟩
  · rw [probeWord_ushiftRight, BitVec.toNat_setWidth_of_le (by decide)]
  · rw [probeMatches, syncOk, probeWord_ushiftRight, Bool.eq_iff_iff, beq_iff_eq, beq_iff_eq, ← BitVec.toNat_inj,
      BitVec.toNat_setWidth_of_le (by decide), BitVec.toNat_setWidth_of_le (by decide), BitVec.toNat_inj]

end Sys2Proof.Proofs
end

/-! # Proofs about the encoding: a window holds a header exactly if it is the encoding of the header (R61 to R68) -/

section
namespace Sys2Proof

open Machine

/-! ## Fields of a window -/

theorem append_eq_append_iff {n m : Nat} {x x' : BitVec n} {y y' : BitVec m} :
    x ++ y = x' ++ y' ↔ x = x' ∧ y = y' := by
  constructor
  · intro h
    have hx := congrArg (BitVec.extractLsb' m n) h
    have hy := congrArg (BitVec.extractLsb' 0 m) h
    rw [BitVec.extractLsb'_append_eq_left, BitVec.extractLsb'_append_eq_left] at hx
    rw [BitVec.extractLsb'_append_eq_right, BitVec.extractLsb'_append_eq_right] at hy
    exact ⟨hx, hy⟩
  · rintro ⟨rfl, rfl⟩
    rfl

/-- A read is `x` followed by `y` exactly if its two parts read so (R46). -/
theorem memRead_eq_append_iff {w : Window} {p n m : Nat} {x : BitVec n} {y : BitVec m} (h : p + n + m ≤ 72) :
    memRead w p (n + m) = x ++ y ↔ memRead w p n = x ∧ memRead w (p + n) m = y := by
  rw [memRead_append w h, append_eq_append_iff]

theorem memRead_all (w : Window) : memRead w 0 72 = w := BitVec.extractLsb'_eq_self

theorem encoded_window_eq_iff {v w : Window} : Encoded.window v = .window w ↔ memRead w 0 72 = v := by
  rw [Encoded.window.injEq, memRead_all, eq_comm]

/-! ## The encoder, field by field

A window is the encoding of a header exactly if its fixed fields are those of the format and the others are the
operands: the widths of the encoding tables, added up, place each field where the decoder reads it. -/

section
variable {w : Window} {nn : BitVec 3} {sr : BitVec 4} {ck1 : BitVec 8} {cc oc : BitVec 7} {res : BitVec 2}
  {ho br obr : BitVec 4} {ck2 : BitVec 8}

/-- The common prefix (R61). -/
theorem memRead_eq_encodePrefix_iff {profile : BitVec 3} :
    memRead w 0 35 = encodePrefix nn profile sr ck1
      ↔ memRead w 0 12 = Config.syncWord ∧ memRead w 12 4 = Config.codecLossy ∧ memRead w 16 1 = 0
        ∧ memRead w 20 3 = profile ∧ memRead w 17 3 = nn ∧ memRead w 23 4 = sr ∧ memRead w 27 8 = ck1 := by
  change memRead w 0 (12 + 4 + 1 + 3 + 3 + 4 + 8) = _ ++ _ ++ _ ++ _ ++ _ ++ _ ++ _ ↔ _
  simp (disch := decide) only [memRead_eq_append_iff, and_assoc]
  exact ⟨fun ⟨hsync, hcodec, hanc, hnn, hprofile, hrest⟩ => ⟨hsync, hcodec, hanc, hprofile, hnn, hrest⟩,
    fun ⟨hsync, hcodec, hanc, hprofile, hnn, hrest⟩ => ⟨hsync, hcodec, hanc, hnn, hprofile, hrest⟩⟩

/-- R62. -/
theorem encode_chb_iff {pad : BitVec 16} :
    encode (.chb nn sr ck1 cc res br ck2 pad) = .window w
      ↔ rowChb.selects w = true ∧ readChb w = .chb nn sr ck1 cc res br ck2 pad := by
  rw [rowChb_selects, readChb, Instr.chb.injEq]
  refine encoded_window_eq_iff.trans ?_
  change memRead w 0 (35 + 7 + 2 + 4 + 8 + 16) = _ ++ _ ++ _ ++ _ ++ _ ++ _ ↔ _
  simp (disch := decide) only [memRead_eq_append_iff, memRead_eq_encodePrefix_iff, and_assoc]
  rfl

/-- R63. -/
theorem encode_obj_iff {pad : BitVec 14} :
    encode (.obj nn sr ck1 oc obr res ck2 pad) = .window w
      ↔ rowObj.selects w = true ∧ readObj w = .obj nn sr ck1 oc obr res ck2 pad := by
  rw [rowObj_selects, readObj, Instr.obj.injEq]
  refine encoded_window_eq_iff.trans ?_
  change memRead w 0 (35 + 2 + 7 + 4 + 2 + 8 + 14) = _ ++ _ ++ _ ++ _ ++ _ ++ _ ++ _ ↔ _
  simp (disch := decide) only [memRead_eq_append_iff, memRead_eq_encodePrefix_iff, and_assoc]
  exact ⟨fun ⟨hsync, hcodec, hanc, hprofile, hnn, hsr, hck1, hsoundbed, hrest⟩ =>
      ⟨hsync, hcodec, hanc, hprofile, hsoundbed, hnn, hsr, hck1, hrest⟩,
    fun ⟨hsync, hcodec, hanc, hprofile, hsoundbed, hnn, hsr, hck1, hrest⟩ =>
      ⟨hsync, hcodec, hanc, hprofile, hnn, hsr, hck1, hsoundbed, hrest⟩⟩

/-- R64. -/
theorem encode_mix_iff {pad : BitVec 3} :
    encode (.mix nn sr ck1 cc br oc obr res ck2 pad) = .window w
      ↔ rowMix.selects w = true ∧ readMix w = .mix nn sr ck1 cc br oc obr res ck2 pad := by
  rw [rowMix_selects, readMix, Instr.mix.injEq]
  refine encoded_window_eq_iff.trans ?_
  change memRead w 0 (35 + 2 + 7 + 4 + 7 + 4 + 2 + 8 + 3) = _ ++ _ ++ _ ++ _ ++ _ ++ _ ++ _ ++ _ ++ _ ↔ _
  simp (disch := decide) only [memRead_eq_append_iff, memRead_eq_encodePrefix_iff, and_assoc]
  exact ⟨fun ⟨hsync, hcodec, hanc, hprofile, hnn, hsr, hck1, hsoundbed, hrest⟩ =>
      ⟨hsync, hcodec, hanc, hprofile, hsoundbed, hnn, hsr, hck1, hrest⟩,
    fun ⟨hsync, hcodec, hanc, hprofile, hsoundbed, hnn, hsr, hck1, hrest⟩ =>
      ⟨hsync, hcodec, hanc, hprofile, hnn, hsr, hck1, hsoundbed, hrest⟩⟩

/-- R65. -/
theorem encode_hoa_iff {pad : BitVec 19} :
    encode (.hoa nn sr ck1 ho res br ck2 pad) = .window w
      ↔ rowHoa.selects w = true ∧ readHoa w = .hoa nn sr ck1 ho res br ck2 pad := by
  rw [rowHoa_selects, readHoa, Instr.hoa.injEq]
  refine encoded_window_eq_iff.trans ?_
  change memRead w 0 (35 + 4 + 2 + 4 + 8 + 19) = _ ++ _ ++ _ ++ _ ++ _ ++ _ ↔ _
  simp (disch := decide) only [memRead_eq_append_iff, memRead_eq_encodePrefix_iff, and_assoc]
  rfl

end

/-! ## The decoder, format by format: the rows of R67 exclude each other by the profile and the soundbed type -/

section
variable {w : Window}

theorem rowChb_selects_eq_false (h : memRead w 20 3 ≠ 0) : rowChb.selects w = false := by
  rw [← Bool.not_eq_true, rowChb_selects]
  exact fun ⟨_, _, _, hprofile⟩ => h hprofile

theorem rowObj_selects_eq_false (h : memRead w 20 3 = 1 → memRead w 35 2 ≠ 0) : rowObj.selects w = false := by
  rw [← Bool.not_eq_true, rowObj_selects]
  exact fun ⟨_, _, _, hprofile, hsoundbed⟩ => h hprofile hsoundbed

theorem rowMix_selects_eq_false (h : memRead w 20 3 ≠ 1) : rowMix.selects w = false := by
  rw [← Bool.not_eq_true, rowMix_selects]
  exact fun ⟨_, _, _, hprofile, _⟩ => h hprofile

theorem decodeWindow_of_chb (h : rowChb.selects w = true) : decodeWindow w = .ok (readChb w) := by
  simp [decodeWindow, h]

theorem decodeWindow_of_obj (h : rowObj.selects w = true) : decodeWindow w = .ok (readObj w) := by
  obtain ⟨-, -, -, hprofile, -⟩ := (rowObj_selects w).1 h
  simp [decodeWindow, h, rowChb_selects_eq_false, hprofile]

theorem decodeWindow_of_mix (h : rowMix.selects w = true) : decodeWindow w = .ok (readMix w) := by
  obtain ⟨-, -, -, hprofile, hsoundbed⟩ := (rowMix_selects w).1 h
  simp [decodeWindow, h, rowChb_selects_eq_false, rowObj_selects_eq_false, hprofile, hsoundbed]

theorem decodeWindow_of_hoa (h : rowHoa.selects w = true) : decodeWindow w = .ok (readHoa w) := by
  obtain ⟨-, -, -, hprofile⟩ := (rowHoa_selects w).1 h
  simp [decodeWindow, h, rowChb_selects_eq_false, rowObj_selects_eq_false, rowMix_selects_eq_false, hprofile]

/-- What a window that decodes holds: the format that selects it, and the fields of the format. -/
theorem decodeWindow_cases {i : Instr} (h : decodeWindow w = .ok i) :
    rowChb.selects w = true ∧ i = readChb w ∨ rowObj.selects w = true ∧ i = readObj w
      ∨ rowMix.selects w = true ∧ i = readMix w ∨ rowHoa.selects w = true ∧ i = readHoa w := by
  unfold decodeWindow at h
  split_ifs at h with hchb hobj hmix hhoa <;> cases h
  · exact .inl ⟨hchb, rfl⟩
  · exact .inr (.inl ⟨hobj, rfl⟩)
  · exact .inr (.inr (.inl ⟨hmix, rfl⟩))
  · exact .inr (.inr (.inr ⟨hhoa, rfl⟩))

/-- A window that does not decode has none of the formats. -/
theorem selects_of_decodeWindow_error {e : Reject} (h : decodeWindow w = .error e) :
    ¬ rowChb.selects w = true ∧ ¬ rowObj.selects w = true ∧ ¬ rowMix.selects w = true
      ∧ ¬ rowHoa.selects w = true := by
  unfold decodeWindow at h
  split_ifs at h with hchb hobj hmix hhoa
  exact ⟨hchb, hobj, hmix, hhoa⟩

/-- A window holds an instruction exactly if it is the encoding of that instruction. -/
theorem decodeWindow_eq_ok_iff {i : Instr} : decodeWindow w = .ok i ↔ encode i = .window w := by
  constructor
  · intro h
    obtain ⟨hrow, rfl⟩ | ⟨hrow, rfl⟩ | ⟨hrow, rfl⟩ | ⟨hrow, rfl⟩ := decodeWindow_cases h
    · exact encode_chb_iff.2 ⟨hrow, rfl⟩
    · exact encode_obj_iff.2 ⟨hrow, rfl⟩
    · exact encode_mix_iff.2 ⟨hrow, rfl⟩
    · exact encode_hoa_iff.2 ⟨hrow, rfl⟩
  · intro h
    cases i with
    | chb =>
      obtain ⟨hrow, hread⟩ := encode_chb_iff.1 h
      rw [decodeWindow_of_chb hrow, hread]
    | obj =>
      obtain ⟨hrow, hread⟩ := encode_obj_iff.1 h
      rw [decodeWindow_of_obj hrow, hread]
    | mix =>
      obtain ⟨hrow, hread⟩ := encode_mix_iff.1 h
      rw [decodeWindow_of_mix hrow, hread]
    | hoa =>
      obtain ⟨hrow, hread⟩ := encode_hoa_iff.1 h
      rw [decodeWindow_of_hoa hrow, hread]
    | nop | probe | decode | framelen => cases h

/-! ## A window has a format exactly if it decodes to an instruction of it (R67) -/

theorem exists_chb_iff :
    (∃ nn sr ck1 cc res br ck2 pad, decodeWindow w = .ok (.chb nn sr ck1 cc res br ck2 pad))
      ↔ rowChb.selects w = true :=
  ⟨fun ⟨_, _, _, _, _, _, _, _, h⟩ => (encode_chb_iff.1 (decodeWindow_eq_ok_iff.1 h)).1,
    fun h => ⟨_, _, _, _, _, _, _, _, decodeWindow_of_chb h⟩⟩

theorem exists_obj_iff :
    (∃ nn sr ck1 oc obr res ck2 pad, decodeWindow w = .ok (.obj nn sr ck1 oc obr res ck2 pad))
      ↔ rowObj.selects w = true :=
  ⟨fun ⟨_, _, _, _, _, _, _, _, h⟩ => (encode_obj_iff.1 (decodeWindow_eq_ok_iff.1 h)).1,
    fun h => ⟨_, _, _, _, _, _, _, _, decodeWindow_of_obj h⟩⟩

theorem exists_mix_iff :
    (∃ nn sr ck1 cc br oc obr res ck2 pad, decodeWindow w = .ok (.mix nn sr ck1 cc br oc obr res ck2 pad))
      ↔ rowMix.selects w = true :=
  ⟨fun ⟨_, _, _, _, _, _, _, _, _, _, h⟩ => (encode_mix_iff.1 (decodeWindow_eq_ok_iff.1 h)).1,
    fun h => ⟨_, _, _, _, _, _, _, _, _, _, decodeWindow_of_mix h⟩⟩

theorem exists_hoa_iff :
    (∃ nn sr ck1 ho res br ck2 pad, decodeWindow w = .ok (.hoa nn sr ck1 ho res br ck2 pad))
      ↔ rowHoa.selects w = true :=
  ⟨fun ⟨_, _, _, _, _, _, _, _, h⟩ => (encode_hoa_iff.1 (decodeWindow_eq_ok_iff.1 h)).1,
    fun h => ⟨_, _, _, _, _, _, _, _, decodeWindow_of_hoa h⟩⟩

end

end Sys2Proof
end

/-! # Proofs about the headers: how they end, and what they do not look at (R69, R72) -/

section
namespace Sys2Proof.Machine

open Host (Outcome)

/-! ## The indexers succeed exactly on the legal operands (R69, R100) -/

section
variable {P : Config.Params}

theorem srate_isOk (i : BitVec 4) : (srate P i).isOk = srLegal i := by
  obtain ⟨hi, he⟩ | ⟨hi, he⟩ := srate_cases P i
  · simp [he, srLegal, hi, Except.isOk, Except.toBool]
  · simp [he, srLegal, hi, Except.isOk, Except.toBool]

theorem chcfg_isOk (c : BitVec 7) : (chcfg P c).isOk = ccLegal c := by
  have hlegal : ccLegal c = decide (c.toNat < 14 ∧ c.toNat ≠ 4 ∧ c.toNat ≠ 5) := by
    rw [Bool.eq_iff_iff]
    simp [ccLegal, ← BitVec.toNat_inj, and_assoc]
  obtain ⟨hi, h4, h5, he⟩ | ⟨hi, he⟩ := chcfg_cases P c
  · simp [he, hlegal, hi, h4, h5, Except.isOk, Except.toBool]
  · simp [he, hlegal, Except.isOk, Except.toBool]
    omega

theorem resolution_isOk (i : BitVec 2) : (resolution P i).isOk = resLegal i := by
  obtain ⟨hi, he⟩ | ⟨hi, he⟩ := resolution_cases P i
  · simp [he, resLegal, hi, Except.isOk, Except.toBool]
  · simp [he, resLegal, hi, Except.isOk, Except.toBool]

theorem hoaSlot_isOk (raw : BitVec 4) : (hoaSlot P raw).isOk = hoLegal raw := by
  obtain ⟨hi, he⟩ | ⟨hi, he⟩ := hoaSlot_cases P raw
  · simp [he, hoLegal, hi, Except.isOk, Except.toBool]
  · simp [he, hoLegal, hi, Except.isOk, Except.toBool]

theorem ladder_isOk (c : Nat) (i : BitVec 4) (cause : Cause) : (ladder P c i cause).isOk = brLegal P c i := by
  obtain ⟨hi, he⟩ | ⟨hi, he⟩ := ladder_cases P c i cause
  · simp [he, brLegal, hi, Except.isOk, Except.toBool]
  · simp [he, brLegal, hi, Except.isOk, Except.toBool]

/-- The slot of an accepted order (R105). -/
theorem hoaSlot_slot {raw : BitVec 4} {h : HoaSlot} (he : hoaSlot P raw = .ok h) : h.slot.toNat = 11 + raw.toNat := by
  obtain ⟨hi, he'⟩ | ⟨-, he'⟩ := hoaSlot_cases P raw
  · cases he'.symm.trans he
    rw [BitVec.toNat_ofNat]
    omega
  · cases he'.symm.trans he

end

/-! ## How a header ends (R69) -/

/-- `o` answers a next state in S_IDLE, with OK if `ok` and INVALID if not. -/
def EndsOk (ok : Bool) (o : Outcome State Fault Refusal) : Prop :=
  Answers (fun t => t.fsm = .idle ∧ t.status = if ok then .ok else .invalid) o

section
variable {s : State} {p : Nat} {ok : Bool}

theorem endsOk_failAt {c : Cause} : EndsOk false (s.failAt p c) := answers_next (by simp)

theorem endsOk_succeedAt {r : Record} {b : BitVec 64} {fs : BitVec 32} : EndsOk true (s.succeedAt p r b fs) :=
  answers_next ⟨rfl, rfl⟩

theorem endsOk_entryAt {α : Type} {e : Except Cause α} {legal : Bool} {k : α → Outcome State Fault Refusal}
    (he : e.isOk = legal) (hk : ∀ v, e = .ok v → EndsOk ok (k v)) : EndsOk (legal && ok) (s.entryAt p e k) := by
  subst he
  cases e with
  | ok v => exact hk v rfl
  | error c => exact endsOk_failAt

theorem endsOk_prefixThen {nn : BitVec 3} {sr : BitVec 4} {k : BitVec 32 → Outcome State Fault Refusal}
    (hk : ∀ rate, EndsOk ok (k rate)) : EndsOk (nnOk s.params nn && (srLegal sr && ok)) (s.prefixThen nn sr k) := by
  unfold State.prefixThen
  cases nnOk s.params nn with
  | true =>
    rw [Bool.true_and]
    exact endsOk_entryAt (srate_isOk sr) fun rate _ => hk rate
  | false => exact endsOk_failAt

theorem endsOk_prefixThen_false {nn : BitVec 3} {sr : BitVec 4} {k : BitVec 32 → Outcome State Fault Refusal}
    (hk : ∀ rate, EndsOk false (k rate)) : EndsOk false (s.prefixThen nn sr k) := by
  simpa using endsOk_prefixThen (nn := nn) (sr := sr) hk

end

/-- A header ends OK exactly if each of its checks passes, and each passes exactly on the legal values. -/
theorem exec_header_endsOk {i : Instr} (s : State) (hi : isHeader i = true) :
    EndsOk (i.wellFormed s.params) (exec i s) := by
  rw [← Bool.and_true (i.wellFormed s.params)]
  cases i with
  | chb =>
    simp only [Instr.wellFormed, Bool.and_assoc]
    exact endsOk_prefixThen fun _ => endsOk_entryAt (chcfg_isOk _) fun _ _ => endsOk_entryAt (resolution_isOk _)
      fun _ _ => endsOk_entryAt (ladder_isOk _ _ _) fun _ _ => endsOk_succeedAt
  | obj =>
    simp only [Instr.wellFormed, Bool.and_assoc]
    exact endsOk_prefixThen fun _ => endsOk_entryAt (ladder_isOk _ _ _) fun _ _ => endsOk_entryAt (resolution_isOk _)
      fun _ _ => endsOk_succeedAt
  | mix =>
    simp only [Instr.wellFormed, Bool.and_assoc]
    exact endsOk_prefixThen fun _ => endsOk_entryAt (chcfg_isOk _) fun _ _ => endsOk_entryAt (ladder_isOk _ _ _)
      fun _ _ => endsOk_entryAt (ladder_isOk _ _ _) fun _ _ => endsOk_entryAt (resolution_isOk _)
      fun _ _ => endsOk_succeedAt
  | hoa =>
    simp only [Instr.wellFormed, Bool.and_assoc]
    exact endsOk_prefixThen fun _ => endsOk_entryAt (hoaSlot_isOk _) fun h hh => endsOk_entryAt (resolution_isOk _)
      fun _ _ => endsOk_entryAt (by rw [ladder_isOk, hoaSlot_slot hh]) fun _ _ => endsOk_succeedAt
  | nop | probe | decode | framelen => cases hi

/-! ## What a header does not look at (R40, R72) -/

/-- The outcome with the window of its next state replaced. -/
def replaceWindow (w : Window) : Outcome State Fault Refusal → Outcome State Fault Refusal
  | .next t => .next { t with w := w }
  | .fault r => .fault r
  | .refused r => .refused r

section
variable {s : State} {w : Window} {p : Nat}

theorem failAt_replaceWindow (c : Cause) : ({ s with w := w } : State).failAt p c = replaceWindow w (s.failAt p c) := by
  cases c <;> rfl

theorem entryAt_replaceWindow {α : Type} {e : Except Cause α} {k k' : α → Outcome State Fault Refusal}
    (hk : ∀ v, k' v = replaceWindow w (k v)) :
    ({ s with w := w } : State).entryAt p e k' = replaceWindow w (s.entryAt p e k) := by
  cases e with
  | ok v => exact hk v
  | error c => exact failAt_replaceWindow c

theorem prefixThen_replaceWindow {nn : BitVec 3} {sr : BitVec 4} {k k' : BitVec 32 → Outcome State Fault Refusal}
    (hk : ∀ v, k' v = replaceWindow w (k v)) :
    ({ s with w := w } : State).prefixThen nn sr k' = replaceWindow w (s.prefixThen nn sr k) := by
  unfold State.prefixThen
  cases nnOk s.params nn with
  | true => exact entryAt_replaceWindow hk
  | false => exact failAt_replaceWindow .nn

end

/-- A header carries its own fields: the latched window has no influence on it. -/
theorem exec_header_replaceWindow {i : Instr} (s : State) (w : Window) (hi : isHeader i = true) :
    exec i { s with w := w } = replaceWindow w (exec i s) := by
  cases i with
  | obj =>
    exact prefixThen_replaceWindow fun _ => entryAt_replaceWindow fun _ => entryAt_replaceWindow fun _ => rfl
  | chb | hoa =>
    exact prefixThen_replaceWindow fun _ => entryAt_replaceWindow fun _ => entryAt_replaceWindow fun _ =>
      entryAt_replaceWindow fun _ => rfl
  | mix =>
    exact prefixThen_replaceWindow fun _ => entryAt_replaceWindow fun _ => entryAt_replaceWindow fun _ =>
      entryAt_replaceWindow fun _ => entryAt_replaceWindow fun _ => rfl
  | nop | probe | decode | framelen => cases hi

/-- The checksums and the unread bits have no influence on a header (R72). -/
theorem exec_eraseIgnored (i : Instr) (s : State) : exec (eraseIgnored i) s = exec i s := by
  cases i <;> rfl

end Sys2Proof.Machine
end

/-! # Proofs about DECODE: the grammar run over any window, in closed form (R121 to R145)

The run is evaluated FSM state by FSM state, from the start of the decode to the checks and results of the closed form
of the headers. -/

section
namespace Sys2Proof.Machine

open Host (Outcome)

/-! ## A DECODE in progress -/

/-- The state of a DECODE of `s` that has come to FSM state `f`, with the cursor at `p`, the record `r` and the temporary
of R134. -/
def State.decodingAt (s : State) (f : Fsm) (p : Nat) (r : Record) (sb : Option (BitVec 64) := none) : State :=
  { s.startDecode with fsm := f, pos := BitVec.ofNat 7 p, record := r, soundbed := sb }

/-- Run the command to its end after the FSM state that answered `o`. -/
def thenFinish (n : Nat) : Outcome State Fault Refusal → Outcome State Fault Refusal
  | .next t => finishWithin n t
  | .fault r => .fault r
  | .refused r => .refused r

section
variable {s : State} {f g : Fsm} {p n : Nat} {r r' : Record} {sb : Option (BitVec 64)}

/-! ## The parts of an FSM state -/

@[simp] theorem State.decodingAt_fsm : (s.decodingAt f p r sb).fsm = f := rfl
@[simp] theorem State.decodingAt_params : (s.decodingAt f p r sb).params = s.params := rfl
@[simp] theorem State.decodingAt_record : (s.decodingAt f p r sb).record = r := rfl
@[simp] theorem State.decodingAt_soundbed : (s.decodingAt f p r sb).soundbed = sb := rfl

@[simp] theorem goOn_decodingAt : goOn (s.decodingAt f p r sb) g r' = .next (s.decodingAt g p r' sb) := rfl

theorem State.decodingAt_pos (hp : p ≤ 72) : (s.decodingAt f p r sb).pos.toNat = p := by
  simp [State.decodingAt]
  omega

theorem State.decodingAt_advancePos : (s.decodingAt f p r sb).advancePos n = s.decodingAt f (p + n) r sb := by
  simp [State.decodingAt, State.advancePos, BitVec.ofNat_add]

@[simp] theorem withRead_decodingAt {k : BitVec n → State → Outcome State Fault Refusal} (h1 : 1 ≤ n) (h32 : n ≤ 32)
    (hp : p + n ≤ 72) :
    withRead n (s.decodingAt f p r sb) k = k (memRead s.w p n) (s.decodingAt f (p + n) r sb) := by
  have hpos : (s.decodingAt f p r sb).pos.toNat = p := State.decodingAt_pos (by omega)
  rw [withRead_inside h1 h32 (by rwa [hpos]), hpos, State.decodingAt_advancePos]
  rfl

@[simp] theorem withSkip_decodingAt {k : State → Outcome State Fault Refusal} (hp : p + n ≤ 72) :
    withSkip n (s.decodingAt f p r sb) k = k (s.decodingAt f (p + n) r sb) := by
  have hpos : (s.decodingAt f p r sb).pos.toNat = p := State.decodingAt_pos (by omega)
  rw [withSkip_inside (by rwa [hpos]), State.decodingAt_advancePos]

/-- A failed check of DECODE takes the record and the temporary, so only the cursor tells how far it came (R212). -/
@[simp] theorem failWith_decodingAt {c : Cause} (hc : c ≠ .flDom) :
    failWith (s.decodingAt f p r sb) c = s.failAt p c := by
  cases c with
  | flDom => exact absurd rfl hc
  | _ => rfl

@[simp] theorem withEntry_decodingAt {α : Type} {e : Except Cause α} {k : α → Outcome State Fault Refusal}
    (he : e ≠ .error .flDom) : withEntry (s.decodingAt f p r sb) e k = s.entryAt p e k := by
  cases e with
  | ok v => rfl
  | error c => exact failWith_decodingAt fun hc => he (by rw [hc])

/-! No indexer answers the cause of FRAMELEN. -/

@[simp] theorem srate_ne_flDom (P : Config.Params) (i : BitVec 4) : srate P i ≠ .error .flDom := by
  obtain ⟨_, he⟩ | ⟨_, he⟩ := srate_cases P i
  · simp [he]
  · simp [he]

@[simp] theorem chcfg_ne_flDom (P : Config.Params) (c : BitVec 7) : chcfg P c ≠ .error .flDom := by
  obtain ⟨_, _, _, he⟩ | ⟨_, he⟩ := chcfg_cases P c
  · simp [he]
  · simp [he]

@[simp] theorem resolution_ne_flDom (P : Config.Params) (i : BitVec 2) : resolution P i ≠ .error .flDom := by
  obtain ⟨_, he⟩ | ⟨_, he⟩ := resolution_cases P i
  · simp [he]
  · simp [he]

@[simp] theorem hoaSlot_ne_flDom (P : Config.Params) (raw : BitVec 4) : hoaSlot P raw ≠ .error .flDom := by
  obtain ⟨_, he⟩ | ⟨_, he⟩ := hoaSlot_cases P raw
  · simp [he]
  · simp [he]

@[simp] theorem ladderEntry_decodingAt {c : Nat} {i : BitVec 4} {cause : Cause}
    {k : BitVec 32 → Outcome State Fault Refusal} (hc : c < 15) (hcause : cause ≠ .flDom) :
    ladderEntry (s.decodingAt f p r sb) c i cause k = s.entryAt p (ladder s.params c i cause) k := by
  rw [ladderEntry, if_pos hc]
  exact withEntry_decodingAt fun he => hcause (cause_of_ladder he).symm

/-! ## The run -/

theorem finishWithin_decodingAt (hf : f ≠ .idle) :
    finishWithin (n + 1) (s.decodingAt f p r sb) = thenFinish n (micro (s.decodingAt f p r sb)) := by
  rw [finishWithin, State.decodingAt_fsm, if_neg hf]
  rfl

@[simp] theorem thenFinish_next (t : State) : thenFinish n (.next t) = finishWithin n t := rfl

@[simp] theorem thenFinish_ite {c : Prop} [Decidable c] {a b : Outcome State Fault Refusal} :
    thenFinish n (if c then a else b) = if c then thenFinish n a else thenFinish n b :=
  apply_ite _ _ _ _

@[simp] theorem thenFinish_failAt (c : Cause) : thenFinish n (s.failAt p c) = s.failAt p c :=
  finishWithin_idle n _ (by simp)

@[simp] theorem thenFinish_succeedAt {b : BitVec 64} {fs : BitVec 32} :
    thenFinish n (s.succeedAt p r b fs) = s.succeedAt p r b fs :=
  finishWithin_idle n _ rfl

@[simp] theorem thenFinish_entryAt {α : Type} {e : Except Cause α} {k : α → Outcome State Fault Refusal} :
    thenFinish n (s.entryAt p e k) = s.entryAt p e fun v => thenFinish n (k v) := by
  cases e with
  | ok v => rfl
  | error c => exact thenFinish_failAt c

/-! ## Steps 1 to 7 -/

/-- The steps 1 to 7 of DECODE over any window (R121 to R127). -/
theorem execDecode_eq (s : State) :
    execDecode s =
      if syncOk (memRead s.w 0 12) then
        if codecOk (memRead s.w 12 4) then
          if ancOk (memRead s.w 16 1) then
            s.prefixThen (memRead s.w 17 3) (memRead s.w 23 4) fun rate =>
              finishWithin 18 (s.decodingAt .s8Branch 35
                { Record.empty with
                  syncWord := some (memRead s.w 0 12), codecId := some (memRead s.w 12 4)
                  ancillaryDataFlag := some (memRead s.w 16 1), neuralNetworkType := some (memRead s.w 17 3)
                  codingProfile := some (memRead s.w 20 3), samplingRateIndex := some (memRead s.w 23 4)
                  samplingRate := some rate })
          else s.failAt 17 .anc
        else s.failAt 16 .codec
      else s.failAt 12 .sync := by
  have hstart : execDecode s = finishWithin 25 (s.decodingAt .s1Sync 0 Record.empty) := rfl
  rw [hstart, State.prefixThen]
  simp [-goOn_eq, -failWith_eq, finishWithin_decodingAt, micro, stepSync, stepCodec, stepAnc, stepNn, stepProfile,
    stepSrIdx, stepSkip1]

/-- The steps 1 to 7 over a window with the fixed fields of the prefix (R61). -/
theorem execDecode_of_prefix (hsync : memRead s.w 0 12 = 0xFFF) (hcodec : memRead s.w 12 4 = 2)
    (hanc : memRead s.w 16 1 = 0) :
    execDecode s = s.prefixThen (memRead s.w 17 3) (memRead s.w 23 4) fun rate =>
      finishWithin 18 (s.decodingAt .s8Branch 35
        (Record.common (memRead s.w 17 3) (memRead s.w 20 3) (memRead s.w 23 4) rate)) := by
  rw [execDecode_eq, hsync, hcodec, hanc]
  rfl

/-! ## Step 8, branch by branch (R128 to R137) -/

/-- The dispatch on the profile (R128). -/
theorem finishWithin_s8Branch {profile : BitVec 3} (hr : r.codingProfile = some profile) :
    finishWithin (n + 1) (s.decodingAt .s8Branch p r) =
      if profile = 0 then finishWithin n (s.decodingAt .s8aChCfg p r)
      else if profile = 1 then finishWithin n (s.decodingAt .s8bSbType p r)
      else if profile = 2 then finishWithin n (s.decodingAt .s8cOrder p r)
      else s.failAt p .profile := by
  simp [-goOn_eq, -failWith_eq, finishWithin_decodingAt, micro, stepBranch, hr]

/-- Channel-based (R129). -/
theorem finishWithin_s8aChCfg (hp : p + 7 ≤ 72) :
    finishWithin (n + 1) (s.decodingAt .s8aChCfg p r) =
      s.entryAt (p + 7) (chcfg s.params (memRead s.w p 7)) fun channels =>
        finishWithin n (s.decodingAt .s9Total (p + 7)
          { r with
            channelCount := some channels, channelConfigIndex := some (memRead s.w p 7), objectCount := some 0
            contentType := some .channelBased }) := by
  simp [-goOn_eq, finishWithin_decodingAt, micro, stepChCfgA, hp]

/-- The dispatch on the soundbed type (R130). -/
theorem finishWithin_s8bSbType (hp : p + 2 ≤ 72) :
    finishWithin (n + 1) (s.decodingAt .s8bSbType p r) =
      if memRead s.w p 2 = 0 then
        finishWithin n (s.decodingAt .s8b0ObjCnt (p + 2)
          { r with soundbedType := some 0, contentType := some .objectBased })
      else if memRead s.w p 2 = 1 then
        finishWithin n (s.decodingAt .s8b1ChCfg (p + 2)
          { r with soundbedType := some 1, contentType := some .channelObject })
      else s.failAt (p + 2) .soundbed := by
  simp [-goOn_eq, -failWith_eq, finishWithin_decodingAt, micro, stepSbType, hp]

/-- Object-based (R131, R132). -/
theorem finishWithin_s8b0ObjCnt (hp : p + 11 ≤ 72) :
    finishWithin (n + 2) (s.decodingAt .s8b0ObjCnt p r) =
      s.entryAt (p + 11) (ladder s.params 0 (memRead s.w (p + 7) 4) .objBr) fun ob =>
        finishWithin n (s.decodingAt .s9Total (p + 11)
          { r with
            objectCount := some (objectCountOf (memRead s.w p 7))
            perObjectBitrateIndex := some (memRead s.w (p + 7) 4)
            totalBitrate := some (objectBitrate ob (objectCountOf (memRead s.w p 7))), channelCount := some 0 }) := by
  have hp7 : p + 7 ≤ 72 := by omega
  simp [-goOn_eq, finishWithin_decodingAt, micro, stepObjCnt0, stepObjBr0, hp, hp7, Nat.add_assoc]

/-- The channel configuration of a soundbed (R133). -/
theorem finishWithin_s8b1ChCfg (hp : p + 7 ≤ 72) :
    finishWithin (n + 1) (s.decodingAt .s8b1ChCfg p r) =
      s.entryAt (p + 7) (chcfg s.params (memRead s.w p 7)) fun channels =>
        finishWithin n (s.decodingAt .s8b1Br (p + 7)
          { r with channelCount := some channels, channelConfigIndex := some (memRead s.w p 7) }) := by
  simp [-goOn_eq, finishWithin_decodingAt, micro, stepChCfgB, hp]

/-- The bitrate of a soundbed, into the temporary (R134). -/
theorem stepSoundbedBr_decodingAt {c : BitVec 7} (hp : p + 4 ≤ 72) (hc : r.channelConfigIndex = some c)
    (hc15 : c.toNat < 15) :
    stepSoundbedBr (s.decodingAt f p r sb) =
      s.entryAt (p + 4) (ladder s.params c.toNat (memRead s.w p 4) .br) fun b =>
        .next (s.decodingAt .s8b1ObjCnt (p + 4) { r with bitrateIndex := some (memRead s.w p 4) }
          (some (ladderBitrate b))) := by
  rw [stepSoundbedBr, withRead_decodingAt (by decide) (by decide) hp]
  simp only [State.decodingAt_record, hc, State.readReg_some]
  rw [ladderEntry_decodingAt (cause := .br) hc15 (by decide)]
  rfl

/-- The bitrate of the objects beside a soundbed, where the temporary ends (R136). -/
theorem stepObjBr1_decodingAt {b : BitVec 64} {o : BitVec 8} (hp : p + 4 ≤ 72) (ho : r.objectCount = some o) :
    stepObjBr1 (s.decodingAt f p r (some b)) =
      s.entryAt (p + 4) (ladder s.params 0 (memRead s.w p 4) .objBr) fun ob =>
        .next (s.decodingAt .s9Total (p + 4)
          { r with perObjectBitrateIndex := some (memRead s.w p 4), totalBitrate := some (mixBitrate b ob o) }) := by
  rw [stepObjBr1, withRead_decodingAt (by decide) (by decide) hp]
  simp only [State.decodingAt_record, State.decodingAt_soundbed, ho, State.readReg_some]
  rw [ladderEntry_decodingAt (c := 0) (cause := .objBr) (by decide) (by decide)]
  rfl

/-- A soundbed with objects behind its channel configuration (R134 to R136). -/
theorem finishWithin_s8b1Br {c : BitVec 7} (hp : p + 15 ≤ 72) (hc : r.channelConfigIndex = some c)
    (hc15 : c.toNat < 15) :
    finishWithin (n + 3) (s.decodingAt .s8b1Br p r) =
      s.entryAt (p + 4) (ladder s.params c.toNat (memRead s.w p 4) .br) fun b =>
      s.entryAt (p + 15) (ladder s.params 0 (memRead s.w (p + 11) 4) .objBr) fun ob =>
        finishWithin n (s.decodingAt .s9Total (p + 15)
          { r with
            bitrateIndex := some (memRead s.w p 4)
            objectCount := some (objectCountOf (memRead s.w (p + 4) 7))
            perObjectBitrateIndex := some (memRead s.w (p + 11) 4)
            totalBitrate := some (mixBitrate (ladderBitrate b) ob (objectCountOf (memRead s.w (p + 4) 7))) }) := by
  have hp4 : p + 4 ≤ 72 := by omega
  have hp11 : p + 11 ≤ 72 := by omega
  simp [-goOn_eq, finishWithin_decodingAt, micro, stepSoundbedBr_decodingAt hp4 hc hc15, stepObjCnt1,
    stepObjBr1_decodingAt, hp, hp11, Nat.add_assoc]

/-- Ambisonic (R137). -/
theorem finishWithin_s8cOrder (hp : p + 4 ≤ 72) :
    finishWithin (n + 1) (s.decodingAt .s8cOrder p r) =
      s.entryAt (p + 4) (hoaSlot s.params (memRead s.w p 4)) fun h =>
        finishWithin n (s.decodingAt .s9Total (p + 4)
          { r with
            ambisonicOrder := some h.order, channelConfigIndex := some h.slot, channelCount := some h.channels
            objectCount := some 0, contentType := some .ambisonic }) := by
  simp [-goOn_eq, finishWithin_decodingAt, micro, stepOrder, hp]

/-! ## Steps 9 to 13 (R138 to R142) -/

/-- Step 13 (R142). -/
theorem stepDone_decodingAt {b : BitVec 64} {fs : BitVec 32} (hb : r.totalBitrate = some b)
    (hfs : r.samplingRate = some fs) (hdef : frameLenDefined b fs = true) :
    stepDone (s.decodingAt .s13Done p r) = s.succeedAt p r b fs := by
  simp only [stepDone, State.decodingAt_record, hb, hfs, State.readReg_some, hdef, if_true]
  rfl

/-- Steps 12 and 13 (R141, R142). -/
theorem finishWithin_s12Skip2 {b : BitVec 64} {fs : BitVec 32} (hp : p + 8 ≤ 72) (hb : r.totalBitrate = some b)
    (hfs : r.samplingRate = some fs) (hdef : frameLenDefined b fs = true) :
    finishWithin (n + 2) (s.decodingAt .s12Skip2 p r) = s.succeedAt (p + 8) r b fs := by
  simp [-goOn_eq, finishWithin_decodingAt, micro, stepSkip2, hp, stepDone_decodingAt hb hfs hdef]

/-- Step 11 in profile 1 (R140, C1). -/
theorem finishWithin_s11Br_profile1 (hprofile : r.codingProfile = some 1) :
    finishWithin (n + 1) (s.decodingAt .s11Br p r) = finishWithin n (s.decodingAt .s12Skip2 p r) := by
  simp [-goOn_eq, finishWithin_decodingAt, micro, stepBr, hprofile]

/-- Step 11 outside profile 1 (R140). -/
theorem finishWithin_s11Br {profile : BitVec 3} {c : BitVec 7} (hp : p + 4 ≤ 72)
    (hprofile : r.codingProfile = some profile) (h1 : profile ≠ 1) (hc : r.channelConfigIndex = some c)
    (hc15 : c.toNat < 15) :
    finishWithin (n + 1) (s.decodingAt .s11Br p r) =
      s.entryAt (p + 4) (ladder s.params c.toNat (memRead s.w p 4) .br) fun b =>
        finishWithin n (s.decodingAt .s12Skip2 (p + 4)
          { r with totalBitrate := some (ladderBitrate b), bitrateIndex := some (memRead s.w p 4) }) := by
  have h1' : profile ≠ 1#3 := h1
  simp [-goOn_eq, finishWithin_decodingAt, micro, stepBr, hp, hprofile, h1', hc, hc15]

/-- Steps 9 and 10 (R138, R139). -/
theorem finishWithin_s9Total {c o : BitVec 8} (hp : p + 2 ≤ 72) (hc : r.channelCount = some c)
    (ho : r.objectCount = some o) :
    finishWithin (n + 2) (s.decodingAt .s9Total p r) =
      s.entryAt (p + 2) (resolution s.params (memRead s.w p 2)) fun e =>
        finishWithin n (s.decodingAt .s11Br (p + 2) (r.withTail c o (memRead s.w p 2) e)) := by
  simp [-goOn_eq, finishWithin_decodingAt, micro, stepTotal, stepRes, hp, hc, ho, Record.withTail]

/-! ## DECODE of a window that holds a header is the header (R144, D26) -/

theorem prefixThen_congr {nn : BitVec 3} {sr : BitVec 4} {k k' : BitVec 32 → Outcome State Fault Refusal}
    (hk : ∀ rate, rateOk rate = true → k rate = k' rate) : s.prefixThen nn sr k = s.prefixThen nn sr k' := by
  unfold State.prefixThen
  cases hrate : srate s.params sr with
  | ok rate => rw [State.entryAt_ok, State.entryAt_ok, hk rate (rateOk_of_srate hrate)]
  | error c => rfl

theorem entryAt_congr {α : Type} {e : Except Cause α} {k k' : α → Outcome State Fault Refusal}
    (hk : ∀ v, e = .ok v → k v = k' v) : s.entryAt p e k = s.entryAt p e k' := by
  cases e with
  | ok v => exact hk v rfl
  | error c => rfl

theorem frameLenDefined_of_ladder {P : Config.Params} {c : Nat} {i : BitVec 4} {cause : Cause} {b fs : BitVec 32}
    (hb : ladder P c i cause = .ok b) (hfs : rateOk fs = true) : frameLenDefined (ladderBitrate b) fs = true :=
  frameLenDefined_of_ok (ladderBitrate_ok (ladder_ne_zero hb)) hfs

/-- A channel-based window (R62). -/
theorem execDecode_of_chb (h : rowChb.selects s.w = true) : execDecode s = exec (readChb s.w) s := by
  obtain ⟨hsync, hcodec, hanc, hprofile⟩ := (rowChb_selects _).1 h
  rw [execDecode_of_prefix hsync hcodec hanc, hprofile]
  refine prefixThen_congr fun rate hrate => ?_
  rw [finishWithin_s8Branch rfl, if_pos rfl, finishWithin_s8aChCfg (by decide)]
  refine entryAt_congr fun channels hcc => ?_
  have hslot := Nat.lt_succ_of_lt (toNat_lt_of_cfgOk (cfgOk_of_chcfg hcc))
  rw [finishWithin_s9Total (by decide) rfl rfl]
  refine entryAt_congr fun e _ => ?_
  rw [finishWithin_s11Br (by decide) rfl (by decide) rfl hslot]
  exact entryAt_congr fun b hb => finishWithin_s12Skip2 (by decide) rfl rfl (frameLenDefined_of_ladder hb hrate)

/-- An object-based window (R63). -/
theorem execDecode_of_obj (h : rowObj.selects s.w = true) : execDecode s = exec (readObj s.w) s := by
  obtain ⟨hsync, hcodec, hanc, hprofile, hsoundbed⟩ := (rowObj_selects _).1 h
  rw [execDecode_of_prefix hsync hcodec hanc, hprofile]
  refine prefixThen_congr fun rate hrate => ?_
  rw [finishWithin_s8Branch rfl, if_neg (by decide), if_pos rfl, finishWithin_s8bSbType (by decide), if_pos hsoundbed,
    finishWithin_s8b0ObjCnt (by decide)]
  refine entryAt_congr fun ob hob => ?_
  rw [finishWithin_s9Total (by decide) rfl rfl]
  refine entryAt_congr fun e _ => ?_
  rw [finishWithin_s11Br_profile1 rfl]
  have hcount := objectCountOf_range (memRead s.w 37 7)
  rw [Bool.and_eq_true, bne_iff_ne] at hcount
  have hok := objectBitrate_ok (ladder_ne_zero hob) hcount.1
  exact finishWithin_s12Skip2 (by decide) rfl rfl (frameLenDefined_of_ok hok hrate)

/-- A window of channels and objects (R64). -/
theorem execDecode_of_mix (h : rowMix.selects s.w = true) : execDecode s = exec (readMix s.w) s := by
  obtain ⟨hsync, hcodec, hanc, hprofile, hsoundbed⟩ := (rowMix_selects _).1 h
  rw [execDecode_of_prefix hsync hcodec hanc, hprofile]
  refine prefixThen_congr fun rate hrate => ?_
  rw [finishWithin_s8Branch rfl, if_neg (by decide), if_pos rfl, finishWithin_s8bSbType (by decide), hsoundbed,
    if_neg (by decide), if_pos rfl, finishWithin_s8b1ChCfg (by decide)]
  refine entryAt_congr fun channels hcc => ?_
  have hslot := Nat.lt_succ_of_lt (toNat_lt_of_cfgOk (cfgOk_of_chcfg hcc))
  rw [finishWithin_s8b1Br (by decide) rfl hslot]
  refine entryAt_congr fun b hb => entryAt_congr fun ob _ => ?_
  rw [finishWithin_s9Total (by decide) rfl rfl]
  refine entryAt_congr fun e _ => ?_
  rw [finishWithin_s11Br_profile1 rfl]
  have hb0 : ladderBitrate b ≠ 0#64 := fun h0 => by simpa [h0] using ladderBitrate_pos (ladder_ne_zero hb)
  exact finishWithin_s12Skip2 (by decide) rfl rfl
    (frameLenDefined_of_ok (mixBitrate_ok ob _ hb0 (ladderBitrate_lt b)) hrate)

/-- An ambisonic window (R65). -/
theorem execDecode_of_hoa (h : rowHoa.selects s.w = true) : execDecode s = exec (readHoa s.w) s := by
  obtain ⟨hsync, hcodec, hanc, hprofile⟩ := (rowHoa_selects _).1 h
  rw [execDecode_of_prefix hsync hcodec hanc, hprofile]
  refine prefixThen_congr fun rate hrate => ?_
  rw [finishWithin_s8Branch rfl, if_neg (by decide), if_neg (by decide), if_pos rfl, finishWithin_s8cOrder (by decide)]
  refine entryAt_congr fun h hh => ?_
  have hslot := Nat.lt_succ_of_lt (toNat_lt_of_cfgOk (cfgOk_of_hoaSlot hh))
  rw [finishWithin_s9Total (by decide) rfl rfl]
  refine entryAt_congr fun e _ => ?_
  rw [finishWithin_s11Br (by decide) rfl (by decide) rfl hslot]
  exact entryAt_congr fun b hb => finishWithin_s12Skip2 (by decide) rfl rfl (frameLenDefined_of_ladder hb hrate)

/-- DECODE of a window that holds a header is the closed form of the header (R144, D26). -/
theorem execDecode_of_decodeWindow {i : Instr} (h : decodeWindow s.w = .ok i) : execDecode s = exec i s := by
  obtain ⟨hrow, rfl⟩ | ⟨hrow, rfl⟩ | ⟨hrow, rfl⟩ | ⟨hrow, rfl⟩ := decodeWindow_cases h
  · exact execDecode_of_chb hrow
  · exact execDecode_of_obj hrow
  · exact execDecode_of_mix hrow
  · exact execDecode_of_hoa hrow

/-- DECODE of a window that holds a header ends OK exactly if the header is legal (R69). -/
theorem execDecode_endsOk {i : Instr} (h : decodeWindow s.w = .ok i) :
    EndsOk (i.wellFormed s.params) (execDecode s) := by
  rw [execDecode_of_decodeWindow h]
  exact exec_header_endsOk s (isHeader_of_decodeWindow h)

/-! ## DECODE of a window that holds no header (R69) -/

/-- Behind a good prefix the profile or the soundbed type of such a window is rejected. -/
theorem finishWithin_s8Branch_of_error {e : Reject} (h : decodeWindow s.w = .error e) (hsync : memRead s.w 0 12 = 0xFFF)
    (hcodec : memRead s.w 12 4 = 2) (hanc : memRead s.w 16 1 = 0) (hr : r.codingProfile = some (memRead s.w 20 3)) :
    EndsOk false (finishWithin (n + 2) (s.decodingAt .s8Branch 35 r)) := by
  obtain ⟨hchb, hobj, hmix, hhoa⟩ := selects_of_decodeWindow_error h
  rw [rowChb_selects] at hchb
  rw [rowObj_selects] at hobj
  rw [rowMix_selects] at hmix
  rw [rowHoa_selects] at hhoa
  have h0 : memRead s.w 20 3 ≠ 0 := fun h0 => hchb ⟨hsync, hcodec, hanc, h0⟩
  have h2 : memRead s.w 20 3 ≠ 2 := fun h2 => hhoa ⟨hsync, hcodec, hanc, h2⟩
  rw [finishWithin_s8Branch hr, if_neg h0]
  by_cases h1 : memRead s.w 20 3 = 1
  · have hsb0 : memRead s.w 35 2 ≠ 0 := fun hsb => hobj ⟨hsync, hcodec, hanc, h1, hsb⟩
    have hsb1 : memRead s.w 35 2 ≠ 1 := fun hsb => hmix ⟨hsync, hcodec, hanc, h1, hsb⟩
    rw [if_pos h1, finishWithin_s8bSbType (by decide), if_neg hsb0, if_neg hsb1]
    exact endsOk_failAt
  · rw [if_neg h1, if_neg h2]
    exact endsOk_failAt

theorem execDecode_of_error {e : Reject} (h : decodeWindow s.w = .error e) : EndsOk false (execDecode s) := by
  rw [execDecode_eq]
  split_ifs with hsync hcodec hanc
  · refine endsOk_prefixThen_false fun rate => ?_
    exact finishWithin_s8Branch_of_error h (eq_of_beq hsync) (eq_of_beq hcodec) (eq_of_beq hanc) rfl
  · exact endsOk_failAt
  · exact endsOk_failAt
  · exact endsOk_failAt

end

end Sys2Proof.Machine
end

/-! # The obligations of the family of the encoding -/

section
namespace Sys2Proof.Proofs

open Machine

/-- Settles O1: a header is read back from its window (`decodeWindow_eq_ok_iff`), and a command from its code. -/
theorem decodeOfEncode : Obligations.DecodeOfEncode := by
  intro i
  cases i with
  | chb | obj | mix | hoa => exact decodeWindow_eq_ok_iff.2 rfl
  | nop | probe | decode | framelen => rfl

/-- Settles O2, the other direction of `decodeWindow_eq_ok_iff`. -/
theorem encodeOfDecodedWindow : Obligations.EncodeOfDecodedWindow :=
  fun _ _ h => ⟨isHeader_of_decodeWindow h, decodeWindow_eq_ok_iff.1 h⟩

/-- Settles O3: each row of R67 selects the windows that decode to its format, and DECODE runs the header that the
window holds, legal or not. -/
theorem formatSelectedByMaskAndMatch : Obligations.FormatSelectedByMaskAndMatch := by
  refine fun w => ⟨exists_chb_iff.trans beq_iff_eq, exists_obj_iff.trans beq_iff_eq, exists_mix_iff.trans beq_iff_eq,
    exists_hoa_iff.trans beq_iff_eq, ?_⟩
  rintro s i rfl hw hlegal
  obtain ⟨t, ht, -, hstatus⟩ := execDecode_endsOk hw
  exact ⟨t, ht, by simpa [hlegal] using hstatus⟩

/-- Settles O20. -/
theorem headerOkIffWellFormed : Obligations.HeaderOkIffWellFormed :=
  fun s _ hi => exec_header_endsOk s hi

/-- Settles O23: a window that holds a header ends as the header does, and every other window ends INVALID. -/
theorem decodeOkIffLegalHeader : Obligations.DecodeOkIffLegalHeader := by
  intro s
  cases hw : decodeWindow s.w with
  | ok i =>
    obtain ⟨t, ht, -, hstatus⟩ := execDecode_endsOk hw
    exact ⟨t, ht, by simp [hstatus]⟩
  | error e =>
    obtain ⟨t, ht, -, hstatus⟩ := execDecode_of_error hw
    exact ⟨t, ht, by simp [hstatus]⟩

/-- Settles O28: DECODE runs the header that the window holds, and the header looks at neither its ignored fields nor the
window. -/
theorem ignoredBitsHaveNoInfluence : Obligations.IgnoredBitsHaveNoInfluence := by
  intro s t w w' i i' hw hw' herase ht
  have hi : exec i { s with w := w } = .next t := (execDecode_of_decodeWindow hw).symm.trans ht
  calc exec .decode { s with w := w' }
    _ = exec i' { s with w := w' } := execDecode_of_decodeWindow hw'
    _ = exec i { s with w := w' } := by rw [← exec_eraseIgnored i', ← herase, exec_eraseIgnored]
    _ = replaceWindow w' (exec i { s with w := w }) :=
      exec_header_replaceWindow { s with w := w } w' (isHeader_of_decodeWindow hw)
    _ = .next { t with w := w' } := by rw [hi, replaceWindow]

/-- Settles O4 by evaluating the decoder on each word. -/
theorem writtenWordsDecode : Obligations.WrittenWordsDecode :=
  ⟨by decide, by decide, by decide, by decide, by decide⟩

end Sys2Proof.Proofs
end

/-! # Proofs about the clock edge: no stop from a state that meets the invariant (R93, R142, R187) -/

section
namespace Sys2Proof.Machine

/-! ## Every run ends (R187) -/

/-- `Fsm` lists the states in the order of the grammar, so a DECODE never comes back to a state. -/
theorem Fsm.idle_or_later_of_mem_successors (f : Fsm) : ∀ g ∈ f.successors, g = .idle ∨ f.ctorIdx < g.ctorIdx := by
  cases f <;> decide

theorem Fsm.ctorIdx_lt_fsmStates (f : Fsm) : f.ctorIdx < fsmStates := by
  cases f <;> decide

/-- Where every FSM state answers, a run ends if it may pass as many states as `Fsm` lists from its own on. -/
theorem answers_finishWithin {P : State → Prop} (hmicro : ∀ s, P s → Answers P (micro s)) (n : Nat) {s : State}
    (h : P s) (hn : s.fsm = .idle ∨ fsmStates ≤ n + s.fsm.ctorIdx) : Answers P (finishWithin n s) := by
  induction n generalizing s with
  | zero =>
    obtain hi | hn := hn
    · exact ⟨s, finishWithin_idle 0 s hi, h⟩
    · have hlt := s.fsm.ctorIdx_lt_fsmStates
      omega
  | succ n ih =>
    by_cases hi : s.fsm = .idle
    · exact ⟨s, finishWithin_idle _ s hi, h⟩
    · obtain ⟨t, ht, hPt⟩ := hmicro s h
      have hlater := s.fsm.idle_or_later_of_mem_successors t.fsm (micro_fsmStep s t ht).mem_successors
      have hn := hn.resolve_left hi
      rw [finishWithin_micro hi ht]
      exact ih hPt (hlater.imp_right fun _ => by omega)

/-- Where every FSM state answers, the command in progress comes to its end (R187). -/
theorem answers_finish {P : State → Prop} (hmicro : ∀ s, P s → Answers P (micro s)) {s : State} (h : P s) :
    Answers P (finish s) :=
  answers_finishWithin hmicro fsmStates h (.inr (Nat.le_add_right _ _))

/-! ## Every edge answers -/

/-- An instruction answers a next state from every state. -/
theorem exec_answers (i : Instr) (s : State) : ∃ t, exec i s = .next t := by
  cases i with
  | chb | obj | mix | hoa => exact (exec_header_endsOk s rfl).imp fun _ h => h.1
  | nop | probe => exact ⟨_, rfl⟩
  | decode => exact (Proofs.decodeOkIffLegalHeader s).imp fun _ h => h.1
  | framelen =>
    have h : Answers (fun _ => True) (execFramelen s) :=
      answers_ite (fun _ => answers_next trivial) fun _ => answers_next trivial
    exact h.imp fun _ h => h.1

theorem startEdge_answers (p : PortSample) (s : State) : ∃ t, startEdge p s = .next t := by
  unfold startEdge
  cases p.pace with
  | hold | state => exact ⟨_, rfl⟩
  | command => exact exec_answers _ _

theorem runEdge_answers_of_inv (p : PortSample) {s : State} (h : s.Inv = true) : AnswersInv (runEdge p s) := by
  unfold runEdge
  cases p.pace with
  | hold => exact answers_next h
  | state => exact micro_of_inv h
  | command => exact answers_finish (fun _ => micro_of_inv) h

end Sys2Proof.Machine
end

/-! # The obligations of the family of the bit cursor -/

section
namespace Sys2Proof.Proofs

open Machine

/-- Settles O55, edge by edge: a reset, a start, where every instruction answers, and a command in progress, where every
FSM state answers (`micro_of_inv`) and the run ends (`answers_finish`). -/
theorem invariantNeverStops : Obligations.InvariantNeverStops := by
  intro s h
  cases hr : s.port.rst with
  | true => exact ⟨_, step_reset hr⟩
  | false =>
    rw [step_after_reset (State.resetDone_of_inv h) hr]
    split
    · exact startEdge_answers s.port s.advance
    · exact (runEdge_answers_of_inv s.port (s.advance_inv.trans h)).imp fun _ ht => ht.1

end Sys2Proof.Proofs
end

/-! # Proofs about the lookup tables: what the constraints of R101 say of the ROMs, and the live length (R106)

One lemma per constraint, for an index that an indexer accepts, and the entries of a ladder on both sides of its live
length. -/

section
namespace Sys2Proof.Machine

variable (P : Config.Params)

/-! ## The constraints of R101 on single entries -/

/-- The two ends of `SR_ROM` (R101 (a)). -/
theorem rom_sr_ends : P.rom.sr[0] = 192000#32 ∧ P.rom.sr[8] = 8000#32 := by
  have hwf := P.wf
  simp only [Config.Rom.wf, Config.Rom.srWf, Bool.and_eq_true, beq_iff_eq] at hwf
  obtain ⟨⟨⟨⟨⟨⟨-, h0⟩, h8⟩, -⟩, -⟩, -⟩, -⟩ := hwf
  exact ⟨h0, h8⟩

/-- A selectable channel configuration has at least one channel (R101 (b)). -/
theorem rom_cc_ne_zero {c : Nat} (h : c < 14) (h4 : c ≠ 4) (h5 : c ≠ 5) : P.rom.cc[c] ≠ 0#8 := by
  have hwf := P.wf
  simp only [Config.Rom.wf, Config.Rom.ccWf, Bool.and_eq_true, List.all_eq_true, bne_iff_ne] at hwf
  obtain ⟨⟨⟨⟨-, ⟨⟨⟨⟨hfirst, hlast⟩, -⟩, -⟩, -⟩⟩, -⟩, -⟩, -⟩ := hwf
  by_cases hc : c < 4
  · exact hfirst _ (List.mem_take_iff_getElem.2 ⟨c, by simp; omega, by simp⟩)
  · refine hlast _ (List.mem_take_iff_getElem.2 ⟨c - 6, by simp; omega, ?_⟩)
    simp [show 6 + (c - 6) = c by omega]

/-- The resolutions are 8, 16 and 24 bits (R101 (d)). -/
theorem rom_res_bits {i : Nat} (h : i < 3) : P.rom.res[i].bits.toNat = 8 * (i + 1) := by
  have hwf := P.wf
  simp only [Config.Rom.wf, Config.Rom.resWf, Bool.and_eq_true, beq_iff_eq] at hwf
  obtain ⟨⟨-, hbits⟩, -⟩ := hwf
  have hi : (P.rom.res.toList.map Config.ResEntry.bits)[i]? = [8#8, 16#8, 24#8][i]? := by rw [hbits]
  obtain rfl | rfl | rfl : i = 0 ∨ i = 1 ∨ i = 2 := by omega
  · simpa using congrArg (Option.map BitVec.toNat) hi
  · simpa using congrArg (Option.map BitVec.toNat) hi
  · simpa using congrArg (Option.map BitVec.toNat) hi

theorem rom_ladder_liveFirst {c : Nat} (h : c < 15) : Config.liveFirst P.rom.ladder[c].toList = true := by
  have hwf := P.wf
  simp only [Config.Rom.wf, Config.Rom.ladderWf, Bool.and_eq_true, List.all_eq_true] at hwf
  obtain ⟨⟨⟨-, hladder⟩, -⟩, -⟩ := hwf
  exact hladder _ (by simp)

/-! ## The ladders on both sides of the live length -/

/-- In a ladder with its live entries first, every entry after the leading non-zero ones is zero (R101 (c)). -/
theorem getElem?_eq_zero_of_liveFirst {l : List (BitVec 32)} (hl : Config.liveFirst l = true) {i : Nat}
    (hi : (l.takeWhile (· != 0#32)).length ≤ i) (hlt : i < l.length) : l[i]? = some 0#32 := by
  induction l generalizing i with
  | nil => simp at hlt
  | cons e es ih =>
    by_cases he : e = 0#32
    · have hall : ∀ b ∈ e :: es, b = 0#32 := by simpa [Config.liveFirst, he] using hl
      rw [List.getElem?_eq_getElem hlt, hall _ (List.getElem_mem hlt)]
    · have hes : Config.liveFirst es = true := by simpa [Config.liveFirst, he] using hl
      cases i with
      | zero => simp [he] at hi
      | succ i => simpa using ih hes (by simpa [he] using hi) (by simpa using hlt)

variable {P}

theorem ladderEntries_length {c : Nat} (hc : c < 15) : (ladderEntries P c).length = 16 := by
  simp [ladderEntries, hc]

theorem live_le {c : Nat} (hc : c < 15) : live P c ≤ 16 :=
  (List.takeWhile_prefix _).length_le.trans_eq (ladderEntries_length hc)

/-- Below the live length the entry of the ladder is not zero (R106). -/
theorem ladderEntries_ne_zero_of_lt_live {c i : Nat} (hi : i < live P c) :
    ∃ b, (ladderEntries P c)[i]? = some b ∧ b ≠ 0#32 := by
  refine ⟨(liveEntries P c)[i], ?_, ?_⟩
  · rw [← liveEntries_getElem? hi, List.getElem?_eq_getElem hi]
  · simpa using List.mem_takeWhile_imp (List.getElem_mem hi)

/-- From the live length on the entries of the ladder are zero (R101 (c)). -/
theorem ladderEntries_eq_zero_of_live_le {c i : Nat} (hc : c < 15) (hi : live P c ≤ i) (h16 : i < 16) :
    (ladderEntries P c)[i]? = some 0#32 := by
  have hl : Config.liveFirst (ladderEntries P c) = true := by simpa [ladderEntries, hc] using rom_ladder_liveFirst P hc
  exact getElem?_eq_zero_of_liveFirst hl hi (by rwa [ladderEntries_length hc])

end Sys2Proof.Machine
end

/-! # The obligations of the family of the lookup tables -/

section
namespace Sys2Proof.Proofs

open Machine

/-- Settles O10: both ends and the entries that are not zero are what R101 (a) says of `SR_ROM`. -/
theorem sampleRateIndexer : Obligations.SampleRateIndexer := by
  intro P i
  obtain ⟨h0, h8⟩ := rom_sr_ends P
  refine ⟨fun hi => ?_, fun hi => ?_, srate_of_rateAt ?_, srate_of_rateAt ?_⟩
  · have hrate : rateAt P i = some P.rom.sr[i.toNat] := Vector.getElem?_eq_getElem hi
    exact ⟨_, hrate, srate_of_rateAt hrate, rom_sr_ne_zero P i.toNat hi⟩
  · obtain ⟨hlt, -⟩ | ⟨-, he⟩ := srate_cases P i
    · omega
    · exact he
  · simp [rateAt, h0]
  · simp [rateAt, h8]

/-- Settles O11: CHCFG answers an entry exactly at the indices to which R101 (b) gives a channel. -/
theorem channelConfigIndexer : Obligations.ChannelConfigIndexer := by
  intro P c
  obtain ⟨hlt, h4, h5, he⟩ | ⟨hrej, he⟩ := chcfg_cases P c
  · exact ⟨fun h => by omega,
      fun _ _ _ => ⟨_, Vector.getElem?_eq_getElem (by omega), he, rom_cc_ne_zero P hlt h4 h5⟩⟩
  · exact ⟨fun _ => he, fun h4 h5 hlt => by omega⟩

/-- Settles O12, order by order: the slots 11, 12 and 13 hold 4, 9 and 16 channels (R101 (b)). -/
theorem ambisonicSlots : Obligations.AmbisonicSlots := by
  intro P raw
  obtain ⟨h11, h12, h13⟩ := rom_cc_ambisonic P
  obtain ⟨hlt, he⟩ | ⟨hge, he⟩ := hoaSlot_cases P raw
  · rw [if_pos hlt]
    refine ⟨_, he, ?_⟩
    obtain h | h | h : raw.toNat = 0 ∨ raw.toNat = 1 ∨ raw.toNat = 2 := by omega
    · simp [h, channelsAt, h11]
    · simp [h, channelsAt, h12]
    · simp [h, channelsAt, h13]
  · rwa [if_neg (by omega)]

/-- Settles O13: the ladder ends at its live length, or it has a zero there. -/
theorem liveLength : Obligations.LiveLength := by
  intro P c hc
  have hle : live P c ≤ 16 := live_le hc
  refine ⟨?_, fun i hi => ⟨by omega, ladderEntries_ne_zero_of_lt_live hi⟩⟩
  obtain hlt | heq := hle.lt_or_eq
  · exact .inr (ladderEntries_eq_zero_of_live_le hc le_rfl hlt)
  · exact .inl heq

/-- Settles O14 by the entries of the ladder on both sides of its live length. -/
theorem ladderIndexer : Obligations.LadderIndexer := by
  intro P c i cause hc
  refine ⟨fun hi => ?_, fun hi => ⟨ladderEntries_eq_zero_of_live_le hc hi i.isLt, ?_⟩⟩
  · obtain ⟨b, hb, hne⟩ := ladderEntries_ne_zero_of_lt_live hi
    exact ⟨b, hb, hne, ladder_of_bitrateAt hi hb⟩
  · obtain ⟨hlt, -⟩ | ⟨-, he⟩ := ladder_cases P c i cause
    · omega
    · exact he

/-- Settles O15: the bits are those of R101 (d). -/
theorem resolutionIndexer : Obligations.ResolutionIndexer := by
  intro P i
  obtain ⟨hlt, he⟩ | ⟨h3, he⟩ := resolution_cases P i
  · exact ⟨fun _ => ⟨_, Vector.getElem?_eq_getElem hlt, he, rom_res_bits P hlt⟩, fun h3 => by omega⟩
  · exact ⟨fun hlt => by omega, fun _ => he⟩

end Sys2Proof.Proofs
end

/-! # Proofs about DECODE: the verdict and the results over any window (R143, R145, R146)

A window that holds no header has a closed form too. With it and the closed forms of the headers, a claim about DECODE is
one rule per check, per failure and per success. -/

section
namespace Sys2Proof.Machine

open Host (Outcome)

/-! ## The checks of steps 1 to 4 as conditions on the fields (R121 to R124) -/

theorem syncOk_iff {v : BitVec 12} : syncOk v = true ↔ v = 0xFFF := beq_iff_eq

theorem codecOk_iff {v : BitVec 4} : codecOk v = true ↔ v = 2 := beq_iff_eq

theorem ancOk_iff {v : BitVec 1} : ancOk v = true ↔ v = 0 := beq_iff_eq

theorem nnOk_iff {P : Config.Params} {nn : BitVec 3} : nnOk P nn = true ↔ P.nnMin ≤ nn ∧ nn ≤ P.nnMax := by
  simp [nnOk, BitVec.ule_eq_decide, BitVec.le_def]

/-! ## DECODE of a window that holds no header, in closed form (R69, R145) -/

/-- Behind the fixed fields of steps 1 to 3, a window that holds no header has a profile or a soundbed type of no
format. -/
theorem fields_of_decodeWindow_error {w : Window} {e : Reject} (h : decodeWindow w = .error e)
    (hsync : memRead w 0 12 = 0xFFF) (hcodec : memRead w 12 4 = 2) (hanc : memRead w 16 1 = 0) :
    memRead w 20 3 ≠ 0 ∧ (memRead w 20 3 = 1 → memRead w 35 2 ≠ 0 ∧ memRead w 35 2 ≠ 1) ∧ memRead w 20 3 ≠ 2 := by
  obtain ⟨hchb, hobj, hmix, hhoa⟩ := selects_of_decodeWindow_error h
  rw [rowChb_selects] at hchb
  rw [rowObj_selects] at hobj
  rw [rowMix_selects] at hmix
  rw [rowHoa_selects] at hhoa
  exact ⟨fun h0 => hchb ⟨hsync, hcodec, hanc, h0⟩,
    fun h1 => ⟨fun hsb => hobj ⟨hsync, hcodec, hanc, h1, hsb⟩, fun hsb => hmix ⟨hsync, hcodec, hanc, h1, hsb⟩⟩,
    fun h2 => hhoa ⟨hsync, hcodec, hanc, h2⟩⟩

/-- Such a window fails at its first fixed field that is wrong, or before that at the neural-network type or the sampling
rate (R121 to R130). -/
theorem execDecode_of_noHeader {s : State} {e : Reject} (h : decodeWindow s.w = .error e) :
    execDecode s =
      if memRead s.w 0 12 ≠ 0xFFF then s.failAt 12 .sync
      else if memRead s.w 12 4 ≠ 2 then s.failAt 16 .codec
      else if memRead s.w 16 1 ≠ 0 then s.failAt 17 .anc
      else s.prefixThen (memRead s.w 17 3) (memRead s.w 23 4) fun _ =>
        if memRead s.w 20 3 = 1 then s.failAt 37 .soundbed else s.failAt 35 .profile := by
  split_ifs with hsync hcodec hanc hprofile
  · rw [execDecode_eq, if_neg (mt syncOk_iff.1 hsync)]
  · rw [execDecode_eq, if_pos (syncOk_iff.2 (not_not.1 hsync)), if_neg (mt codecOk_iff.1 hcodec)]
  · rw [execDecode_eq, if_pos (syncOk_iff.2 (not_not.1 hsync)), if_pos (codecOk_iff.2 (not_not.1 hcodec)),
      if_neg (mt ancOk_iff.1 hanc)]
  all_goals
    rw [not_not] at hsync hcodec hanc
    obtain ⟨h0, hsb, h2⟩ := fields_of_decodeWindow_error h hsync hcodec hanc
    rw [execDecode_of_prefix hsync hcodec hanc]
    refine prefixThen_congr fun rate _ => ?_
    rw [finishWithin_s8Branch rfl, if_neg h0]
  · rw [if_pos hprofile, finishWithin_s8bSbType (by decide), if_neg (hsb hprofile).1, if_neg (hsb hprofile).2]
  · rw [if_neg hprofile, if_neg h2]

/-! ## The indexers fail exactly on the operands that the verdict names (R100, R145) -/

/-- The check `e` fails exactly if `bad`, and then with cause `c`. -/
def FailsIff {α : Type} (e : Except Cause α) (bad : Prop) (c : Cause) : Prop :=
  (¬ bad ∧ ∃ v, e = .ok v) ∨ (bad ∧ e = .error c)

section
variable (P : Config.Params)

theorem srate_failsIff (i : BitVec 4) : FailsIff (srate P i) (9 ≤ i.toNat) .srIdx := by
  obtain ⟨hi, he⟩ | ⟨hi, he⟩ := srate_cases P i
  · exact .inl ⟨Nat.not_le.2 hi, _, he⟩
  · exact .inr ⟨hi, he⟩

theorem chcfg_failsIff (c : BitVec 7) : FailsIff (chcfg P c) (ccLegal c = false) .chCfg := by
  have hok := chcfg_isOk (P := P) c
  obtain ⟨_, _, _, he⟩ | ⟨_, he⟩ := chcfg_cases P c
  · rw [he] at hok
    exact .inl ⟨by simp [← hok, Except.isOk, Except.toBool], _, he⟩
  · rw [he] at hok
    exact .inr ⟨hok.symm, he⟩

theorem resolution_failsIff (i : BitVec 2) : FailsIff (resolution P i) (i = 3) .res := by
  obtain ⟨hi, he⟩ | ⟨hi, he⟩ := resolution_cases P i
  · refine .inl ⟨?_, _, he⟩
    rintro rfl
    exact absurd hi (by decide)
  · exact .inr ⟨BitVec.eq_of_toNat_eq hi, he⟩

theorem hoaSlot_failsIff (raw : BitVec 4) : FailsIff (hoaSlot P raw) (3 ≤ raw.toNat) .hoa := by
  obtain ⟨hi, he⟩ | ⟨hi, he⟩ := hoaSlot_cases P raw
  · exact .inl ⟨Nat.not_le.2 hi, _, he⟩
  · exact .inr ⟨hi, he⟩

theorem ladder_failsIff (c : Nat) (i : BitVec 4) (cause : Cause) :
    FailsIff (ladder P c i cause) (live P c ≤ i.toNat) cause := by
  obtain ⟨hi, he⟩ | ⟨hi, he⟩ := ladder_cases P c i cause
  · exact .inl ⟨Nat.not_le.2 hi, _, he⟩
  · exact .inr ⟨hi, he⟩

end

/-! ## The verdict (R145) -/

/-- `o` ends in S_IDLE with the cause and the cursor of the verdict `v`, and with OK exactly if it names no cause. -/
def HasVerdict (v : Option Cause × Nat) (o : Outcome State Fault Refusal) : Prop :=
  Answers (fun t => t.fsm = .idle ∧ t.cause = v.1 ∧ t.pos.toNat = v.2
    ∧ t.status = if t.cause = none then .ok else .invalid) o

section
variable {s : State} {p : Nat} {v v' : Option Cause × Nat}

theorem hasVerdict_ite {c : Prop} [Decidable c] {o o' : Outcome State Fault Refusal} (h : HasVerdict v o)
    (h' : ¬ c → HasVerdict v' o') : HasVerdict (if c then v else v') (if c then o else o') := by
  split
  · exact h
  · exact h' ‹_›

theorem hasVerdict_failAt {c : Cause} (hp : p ≤ 72) : HasVerdict (some c, p) (s.failAt p c) :=
  answers_next ⟨by simp, by simp, by simp; omega, by simp⟩

theorem hasVerdict_succeedAt {r : Record} {b : BitVec 64} {fs : BitVec 32} (hp : p ≤ 72) :
    HasVerdict (none, p) (s.succeedAt p r b fs) :=
  answers_next ⟨rfl, rfl, by simp; omega, rfl⟩

theorem hasVerdict_entryAt {α : Type} {e : Except Cause α} {bad : Prop} [Decidable bad] {c : Cause}
    {k : α → Outcome State Fault Refusal} (he : FailsIff e bad c) (hp : p ≤ 72)
    (hk : ∀ a, e = .ok a → HasVerdict v (k a)) : HasVerdict (if bad then (some c, p) else v) (s.entryAt p e k) := by
  obtain ⟨hgood, a, rfl⟩ | ⟨hbad, rfl⟩ := he
  · rw [if_neg hgood]
    exact hk a rfl
  · rw [if_pos hbad]
    exact hasVerdict_failAt hp

theorem hasVerdict_prefixThen {nn : BitVec 3} {sr : BitVec 4} {k : BitVec 32 → Outcome State Fault Refusal}
    (hk : ∀ rate, HasVerdict v (k rate)) :
    HasVerdict (if ¬ (s.params.nnMin ≤ nn ∧ nn ≤ s.params.nnMax) then (some .nn, 20)
      else if 9 ≤ sr.toNat then (some .srIdx, 27) else v) (s.prefixThen nn sr k) := by
  rw [State.prefixThen, ite_not]
  by_cases hnn : s.params.nnMin ≤ nn ∧ nn ≤ s.params.nnMax
  · rw [if_pos hnn, if_pos (nnOk_iff.2 hnn)]
    exact hasVerdict_entryAt (srate_failsIff _ _) (by decide) fun rate _ => hk rate
  · rw [if_neg hnn, if_neg (mt nnOk_iff.1 hnn)]
    exact hasVerdict_failAt (by decide)

/-- The verdict of a channel-based window (R62). -/
theorem hasVerdict_of_chb (h : rowChb.selects s.w = true) :
    HasVerdict (decodeVerdict s.params s.w) (exec (readChb s.w) s) := by
  obtain ⟨hsync, hcodec, hanc, hprofile⟩ := (rowChb_selects _).1 h
  rw [decodeVerdict, if_neg (not_not.2 hsync), if_neg (not_not.2 hcodec), if_neg (not_not.2 hanc)]
  refine hasVerdict_prefixThen fun _ => ?_
  rw [if_pos hprofile]
  exact hasVerdict_entryAt (chcfg_failsIff _ _) (by decide) fun _ _ =>
    hasVerdict_entryAt (resolution_failsIff _ _) (by decide) fun _ _ =>
    hasVerdict_entryAt (ladder_failsIff _ _ _ _) (by decide) fun _ _ => hasVerdict_succeedAt (by decide)

/-- The verdict of an object-based window (R63). -/
theorem hasVerdict_of_obj (h : rowObj.selects s.w = true) :
    HasVerdict (decodeVerdict s.params s.w) (exec (readObj s.w) s) := by
  obtain ⟨hsync, hcodec, hanc, hprofile, hsoundbed⟩ := (rowObj_selects _).1 h
  rw [decodeVerdict, if_neg (not_not.2 hsync), if_neg (not_not.2 hcodec), if_neg (not_not.2 hanc)]
  refine hasVerdict_prefixThen fun _ => ?_
  rw [hprofile, if_neg (by decide), if_pos rfl, if_pos hsoundbed]
  exact hasVerdict_entryAt (ladder_failsIff _ _ _ _) (by decide) fun _ _ =>
    hasVerdict_entryAt (resolution_failsIff _ _) (by decide) fun _ _ => hasVerdict_succeedAt (by decide)

/-- The verdict of a window of channels and objects (R64). -/
theorem hasVerdict_of_mix (h : rowMix.selects s.w = true) :
    HasVerdict (decodeVerdict s.params s.w) (exec (readMix s.w) s) := by
  obtain ⟨hsync, hcodec, hanc, hprofile, hsoundbed⟩ := (rowMix_selects _).1 h
  rw [decodeVerdict, if_neg (not_not.2 hsync), if_neg (not_not.2 hcodec), if_neg (not_not.2 hanc)]
  refine hasVerdict_prefixThen fun _ => ?_
  rw [hprofile, if_neg (by decide), if_pos rfl, hsoundbed, if_neg (by decide), if_pos rfl]
  exact hasVerdict_entryAt (chcfg_failsIff _ _) (by decide) fun _ _ =>
    hasVerdict_entryAt (ladder_failsIff _ _ _ _) (by decide) fun _ _ =>
    hasVerdict_entryAt (ladder_failsIff _ _ _ _) (by decide) fun _ _ =>
    hasVerdict_entryAt (resolution_failsIff _ _) (by decide) fun _ _ => hasVerdict_succeedAt (by decide)

/-- The verdict of an ambisonic window (R65). -/
theorem hasVerdict_of_hoa (h : rowHoa.selects s.w = true) :
    HasVerdict (decodeVerdict s.params s.w) (exec (readHoa s.w) s) := by
  obtain ⟨hsync, hcodec, hanc, hprofile⟩ := (rowHoa_selects _).1 h
  rw [decodeVerdict, if_neg (not_not.2 hsync), if_neg (not_not.2 hcodec), if_neg (not_not.2 hanc)]
  refine hasVerdict_prefixThen fun _ => ?_
  rw [hprofile, if_neg (by decide), if_neg (by decide), if_pos rfl]
  exact hasVerdict_entryAt (hoaSlot_failsIff _ _) (by decide) fun _ hslot =>
    hasVerdict_entryAt (resolution_failsIff _ _) (by decide) fun _ _ =>
    hasVerdict_entryAt (by rw [← hoaSlot_slot hslot]; exact ladder_failsIff _ _ _ _) (by decide) fun _ _ =>
    hasVerdict_succeedAt (by decide)

/-- The verdict of a window that holds no header. -/
theorem hasVerdict_of_noHeader {e : Reject} (h : decodeWindow s.w = .error e) :
    HasVerdict (decodeVerdict s.params s.w) (execDecode s) := by
  rw [execDecode_of_noHeader h, decodeVerdict]
  refine hasVerdict_ite (hasVerdict_failAt (by decide)) fun hsync =>
    hasVerdict_ite (hasVerdict_failAt (by decide)) fun hcodec =>
    hasVerdict_ite (hasVerdict_failAt (by decide)) fun hanc => hasVerdict_prefixThen fun _ => ?_
  obtain ⟨h0, hsb, h2⟩ :=
    fields_of_decodeWindow_error h (not_not.1 hsync) (not_not.1 hcodec) (not_not.1 hanc)
  rw [if_neg h0]
  by_cases h1 : memRead s.w 20 3 = 1
  · rw [if_pos h1, if_pos h1, if_neg (hsb h1).1, if_neg (hsb h1).2]
    exact hasVerdict_failAt (by decide)
  · rw [if_neg h1, if_neg h1, if_neg h2]
    exact hasVerdict_failAt (by decide)

end

/-- DECODE ends with the verdict of its window (R145). -/
theorem execDecode_hasVerdict (s : State) : HasVerdict (decodeVerdict s.params s.w) (execDecode s) := by
  cases hw : decodeWindow s.w with
  | error e => exact hasVerdict_of_noHeader hw
  | ok i =>
    rw [execDecode_of_decodeWindow hw]
    obtain ⟨hrow, rfl⟩ | ⟨hrow, rfl⟩ | ⟨hrow, rfl⟩ | ⟨hrow, rfl⟩ := decodeWindow_cases hw
    · exact hasVerdict_of_chb hrow
    · exact hasVerdict_of_obj hrow
    · exact hasVerdict_of_mix hrow
    · exact hasVerdict_of_hoa hrow

/-! ## The results depend on the window and the parameters alone (R146) -/

/-- Both outcomes answer next states, with the same results. -/
def SameResults (o o' : Outcome State Fault Refusal) : Prop :=
  ∃ t t', o = .next t ∧ o' = .next t' ∧ t.status = t'.status ∧ t.record = t'.record ∧ t.frameBytes = t'.frameBytes
    ∧ t.pos = t'.pos ∧ t.cause = t'.cause

section
variable {s s' : State} {p : Nat}

theorem sameResults_failAt {c : Cause} : SameResults (s.failAt p c) (s'.failAt p c) :=
  ⟨_, _, rfl, rfl, by simp⟩

theorem sameResults_succeedAt {r : Record} {b : BitVec 64} {fs : BitVec 32} :
    SameResults (s.succeedAt p r b fs) (s'.succeedAt p r b fs) :=
  ⟨_, _, rfl, rfl, rfl, rfl, rfl, rfl, rfl⟩

theorem sameResults_ite {c : Prop} [Decidable c] {a b a' b' : Outcome State Fault Refusal} (ha : SameResults a a')
    (hb : SameResults b b') : SameResults (if c then a else b) (if c then a' else b') := by
  split
  · exact ha
  · exact hb

theorem sameResults_entryAt {α : Type} {e : Except Cause α} {k k' : α → Outcome State Fault Refusal}
    (hk : ∀ v, SameResults (k v) (k' v)) : SameResults (s.entryAt p e k) (s'.entryAt p e k') := by
  cases e with
  | ok v => exact hk v
  | error c => exact sameResults_failAt

theorem sameResults_prefixThen {nn : BitVec 3} {sr : BitVec 4} {k k' : BitVec 32 → Outcome State Fault Refusal}
    (hP : s.params = s'.params) (hk : ∀ rate, SameResults (k rate) (k' rate)) :
    SameResults (s.prefixThen nn sr k) (s'.prefixThen nn sr k') := by
  rw [State.prefixThen, State.prefixThen, hP]
  exact sameResults_ite (sameResults_entryAt hk) sameResults_failAt

theorem exec_header_sameResults {i : Instr} (hi : isHeader i = true) (hP : s.params = s'.params) :
    SameResults (exec i s) (exec i s') := by
  cases i with
  | chb | hoa =>
    simp only [exec, execChb, execHoa, hP]
    exact sameResults_prefixThen hP fun _ => sameResults_entryAt fun _ => sameResults_entryAt fun _ =>
      sameResults_entryAt fun _ => sameResults_succeedAt
  | obj =>
    simp only [exec, execObj, hP]
    exact sameResults_prefixThen hP fun _ => sameResults_entryAt fun _ => sameResults_entryAt fun _ =>
      sameResults_succeedAt
  | mix =>
    simp only [exec, execMix, hP]
    exact sameResults_prefixThen hP fun _ => sameResults_entryAt fun _ => sameResults_entryAt fun _ =>
      sameResults_entryAt fun _ => sameResults_entryAt fun _ => sameResults_succeedAt
  | nop | probe | decode | framelen => cases hi

theorem execDecode_sameResults (hw : s.w = s'.w) (hP : s.params = s'.params) :
    SameResults (execDecode s) (execDecode s') := by
  cases h : decodeWindow s.w with
  | ok i =>
    rw [execDecode_of_decodeWindow h, execDecode_of_decodeWindow (hw ▸ h)]
    exact exec_header_sameResults (isHeader_of_decodeWindow h) hP
  | error e =>
    rw [execDecode_of_noHeader h, execDecode_of_noHeader (hw ▸ h), hw]
    exact sameResults_ite sameResults_failAt (sameResults_ite sameResults_failAt (sameResults_ite sameResults_failAt
      (sameResults_prefixThen hP fun _ => sameResults_ite sameResults_failAt sameResults_failAt)))

end

/-! ## What a successful header leaves (R142, R143) -/

/-- Every next state that `o` answers with OK meets `P`. -/
def EnsuresOk (P : State → Prop) (o : Outcome State Fault Refusal) : Prop := Ensures (fun t => t.status = .ok → P t) o

section
variable {P : State → Prop} {s : State} {p : Nat}

theorem ensuresOk_failAt {c : Cause} : EnsuresOk P (s.failAt p c) := ensures_next.2 (by simp)

theorem ensuresOk_succeedAt {r : Record} {b : BitVec 64} {fs : BitVec 32}
    (h : P (s.decoded p r (frameLenBits b fs))) : EnsuresOk P (s.succeedAt p r b fs) :=
  ensures_next.2 fun _ => h

theorem ensuresOk_entryAt {α : Type} {e : Except Cause α} {k : α → Outcome State Fault Refusal}
    (hk : ∀ v, e = .ok v → EnsuresOk P (k v)) : EnsuresOk P (s.entryAt p e k) := by
  cases e with
  | ok v => exact hk v rfl
  | error c => exact ensuresOk_failAt

theorem ensuresOk_prefixThen {nn : BitVec 3} {sr : BitVec 4} {k : BitVec 32 → Outcome State Fault Refusal}
    (hk : ∀ rate, srate s.params sr = .ok rate → EnsuresOk P (k rate)) : EnsuresOk P (s.prefixThen nn sr k) :=
  ensures_ite (fun _ => ensuresOk_entryAt hk) fun _ => ensuresOk_failAt

end

/-- FRAME_BYTES holds the frame length of the record (R142, R189). -/
def State.FrameBytesOfRecord (t : State) : Prop :=
  ∃ b fs, t.record.totalBitrate = some b ∧ t.record.samplingRate = some fs ∧ t.frameBytes = some (frameLenBits b fs)

theorem exec_header_frameBytes {i : Instr} (s : State) (hi : isHeader i = true) :
    EnsuresOk State.FrameBytesOfRecord (exec i s) := by
  cases i with
  | obj =>
    exact ensuresOk_prefixThen fun _ _ => ensuresOk_entryAt fun _ _ => ensuresOk_entryAt fun _ _ =>
      ensuresOk_succeedAt ⟨_, _, rfl, rfl, rfl⟩
  | chb | hoa =>
    exact ensuresOk_prefixThen fun _ _ => ensuresOk_entryAt fun _ _ => ensuresOk_entryAt fun _ _ =>
      ensuresOk_entryAt fun _ _ => ensuresOk_succeedAt ⟨_, _, rfl, rfl, rfl⟩
  | mix =>
    exact ensuresOk_prefixThen fun _ _ => ensuresOk_entryAt fun _ _ => ensuresOk_entryAt fun _ _ =>
      ensuresOk_entryAt fun _ _ => ensuresOk_entryAt fun _ _ => ensuresOk_succeedAt ⟨_, _, rfl, rfl, rfl⟩
  | nop | probe | decode | framelen => cases hi

/-! ### The counts, the bitrate and the indices (R143) -/

/-- The counts that go with a content type (R143). -/
def ContentType.CountsFit (channels objects : BitVec 8) : ContentType → Prop
  | .channelBased | .ambisonic => objects = 0 ∧ 1 ≤ channels.toNat
  | .objectBased => channels = 0 ∧ 1 ≤ objects.toNat
  | .channelObject => 1 ≤ channels.toNat ∧ 1 ≤ objects.toNat

/-- What R143 says of the record of a successful DECODE with content type `type`, the counts `ch` and `ob` and the total
bitrate `b`. -/
structure Record.Counted (P : Config.Params) (r : Record) (type : ContentType) (ch ob : BitVec 8) (b : BitVec 64) :
    Prop where
  contentType : r.contentType = some type
  channelCount : r.channelCount = some ch
  objectCount : r.objectCount = some ob
  totalChannelCount : r.totalChannelCount = some (totalChannels ch ob)
  totalBitrate : r.totalBitrate = some b
  countsFit : type.CountsFit ch ob
  bitrateOk : bitrateOk b = true
  samplingRateIndex : holds r.samplingRateIndex srLegal = true
  resolutionIndex : holds r.resolutionIndex resLegal = true
  channelConfigIndex : ∀ c, r.channelConfigIndex = some c → ccLegal c = true
  bitrateIndex : ∀ c i, r.channelConfigIndex = some c → r.bitrateIndex = some i → i.toNat < live P c.toNat
  perObjectBitrateIndex : ∀ i, r.perObjectBitrateIndex = some i → i.toNat < live P 0

section
variable {P : Config.Params}

/-! What the checks that have passed say. -/

theorem srLegal_of_srate {i : BitVec 4} {rate : BitVec 32} (h : srate P i = .ok rate) : srLegal i = true := by
  rw [← srate_isOk (P := P), h]
  rfl

theorem resLegal_of_resolution {i : BitVec 2} {e : Config.ResEntry} (h : resolution P i = .ok e) :
    resLegal i = true := by
  rw [← resolution_isOk (P := P), h]
  rfl

theorem lt_live_of_ladder {c : Nat} {i : BitVec 4} {cause : Cause} {b : BitVec 32} (h : ladder P c i cause = .ok b) :
    i.toNat < live P c := by
  obtain ⟨hi, -⟩ | ⟨-, he⟩ := ladder_cases P c i cause
  · exact hi
  · cases he.symm.trans h

theorem channels_pos_of_chcfg {c : BitVec 7} {n : BitVec 8} (h : chcfg P c = .ok n) : 1 ≤ n.toNat := by
  obtain ⟨hlt, h4, h5, he⟩ | ⟨-, he⟩ := chcfg_cases P c
  · cases he.symm.trans h
    exact pos_of_ne_zero (rom_cc_ne_zero P hlt h4 h5)
  · cases he.symm.trans h

theorem channels_pos_of_hoaSlot {raw : BitVec 4} {e : HoaSlot} (h : hoaSlot P raw = .ok e) : 1 ≤ e.channels.toNat := by
  obtain ⟨hi, he⟩ | ⟨-, he⟩ := hoaSlot_cases P raw
  · cases he.symm.trans h
    obtain h0 | h1 | h2 : raw.toNat = 0 ∨ raw.toNat = 1 ∨ raw.toNat = 2 := by omega
    · simp [h0]
    · simp [h1]
    · simp [h2]
  · cases he.symm.trans h

theorem objects_ne_zero (raw : BitVec 7) : objectCountOf raw ≠ 0#8 := by
  have h := objectCountOf_range raw
  rw [Bool.and_eq_true, bne_iff_ne] at h
  exact h.1

theorem objects_pos (raw : BitVec 7) : 1 ≤ (objectCountOf raw).toNat :=
  pos_of_ne_zero (objects_ne_zero raw)

theorem ladderBitrate_ne_zero {b : BitVec 32} (hb : b ≠ 0#32) : ladderBitrate b ≠ 0#64 :=
  fun h0 => by simpa [h0] using ladderBitrate_pos hb

end

theorem exec_header_counted {i : Instr} (s : State) (hi : isHeader i = true) :
    EnsuresOk (fun t => ∃ type ch ob b, t.record.Counted s.params type ch ob b) (exec i s) := by
  cases i with
  | chb nn sr ck1 cc res br ck2 pad =>
    refine ensuresOk_prefixThen fun rate hrate => ensuresOk_entryAt fun channels hcc => ensuresOk_entryAt fun e hres =>
      ensuresOk_entryAt fun b hb => ensuresOk_succeedAt ⟨.channelBased, channels, 0, ladderBitrate b, ?_⟩
    exact ⟨rfl, rfl, rfl, rfl, rfl, ⟨rfl, channels_pos_of_chcfg hcc⟩, ladderBitrate_ok (ladder_ne_zero hb),
      srLegal_of_srate hrate, resLegal_of_resolution hres, by rintro _ ⟨⟩; exact cfgOk_of_chcfg hcc,
      by rintro _ _ ⟨⟩ ⟨⟩; exact lt_live_of_ladder hb, nofun⟩
  | obj nn sr ck1 oc obr res ck2 pad =>
    refine ensuresOk_prefixThen fun rate hrate => ensuresOk_entryAt fun b hb => ensuresOk_entryAt fun e hres =>
      ensuresOk_succeedAt ⟨.objectBased, 0, objectCountOf oc, objectBitrate b (objectCountOf oc), ?_⟩
    exact ⟨rfl, rfl, rfl, rfl, rfl, ⟨rfl, objects_pos oc⟩, objectBitrate_ok (ladder_ne_zero hb) (objects_ne_zero oc),
      srLegal_of_srate hrate, resLegal_of_resolution hres, nofun, nofun,
      by rintro _ ⟨⟩; exact lt_live_of_ladder hb⟩
  | mix nn sr ck1 cc br oc obr res ck2 pad =>
    refine ensuresOk_prefixThen fun rate hrate => ensuresOk_entryAt fun channels hcc => ensuresOk_entryAt fun b hb =>
      ensuresOk_entryAt fun ob hob => ensuresOk_entryAt fun e hres => ensuresOk_succeedAt
        ⟨.channelObject, channels, objectCountOf oc, mixBitrate (ladderBitrate b) ob (objectCountOf oc), ?_⟩
    exact ⟨rfl, rfl, rfl, rfl, rfl, ⟨channels_pos_of_chcfg hcc, objects_pos oc⟩,
      mixBitrate_ok ob _ (ladderBitrate_ne_zero (ladder_ne_zero hb)) (ladderBitrate_lt b),
      srLegal_of_srate hrate, resLegal_of_resolution hres, by rintro _ ⟨⟩; exact cfgOk_of_chcfg hcc,
      by rintro _ _ ⟨⟩ ⟨⟩; exact lt_live_of_ladder hb, by rintro _ ⟨⟩; exact lt_live_of_ladder hob⟩
  | hoa nn sr ck1 ho res br ck2 pad =>
    refine ensuresOk_prefixThen fun rate hrate => ensuresOk_entryAt fun h hslot => ensuresOk_entryAt fun e hres =>
      ensuresOk_entryAt fun b hb => ensuresOk_succeedAt ⟨.ambisonic, h.channels, 0, ladderBitrate b, ?_⟩
    exact ⟨rfl, rfl, rfl, rfl, rfl, ⟨rfl, channels_pos_of_hoaSlot hslot⟩, ladderBitrate_ok (ladder_ne_zero hb),
      srLegal_of_srate hrate, resLegal_of_resolution hres, by rintro _ ⟨⟩; exact cfgOk_of_hoaSlot hslot,
      by rintro _ _ ⟨⟩ ⟨⟩; exact lt_live_of_ladder hb, nofun⟩
  | nop | probe | decode | framelen => cases hi

/-- DECODE ends OK only over a window that holds a header, and then as that header does. -/
theorem ensuresOk_execDecode {P : State → Prop} {s : State}
    (h : ∀ i, isHeader i = true → EnsuresOk P (exec i s)) : EnsuresOk P (execDecode s) := by
  cases hw : decodeWindow s.w with
  | ok i =>
    rw [execDecode_of_decodeWindow hw]
    exact h i (isHeader_of_decodeWindow hw)
  | error e => exact (execDecode_of_error hw).ensures.mono fun t ⟨_, hinvalid⟩ hok => by simp [hinvalid] at hok

end Sys2Proof.Machine
end

/-! # The obligations of the family of the header decoder -/

section
namespace Sys2Proof.Proofs

open Machine

/-- Settles O52. -/
theorem profile1SkipsStep11 : Obligations.Profile1SkipsStep11 := fun _ => micro_s11Br_profile1

/-- Settles O21: the run is evaluated FSM state by FSM state, format by format (`execDecode_of_decodeWindow`). -/
theorem grammarAgreesWithClosedForm : Obligations.GrammarAgreesWithClosedForm := fun _ _ => execDecode_of_decodeWindow

/-- Settles O22: one rule per check of the closed forms, each against the same check of the verdict. -/
theorem checksInOrder : Obligations.ChecksInOrder := execDecode_hasVerdict

/-- Settles O24: a legal header ends OK, and every header that ends OK wrote the frame length of its record. -/
theorem decodeWritesFrameLength : Obligations.DecodeWritesFrameLength := by
  intro s i hw hlegal
  obtain ⟨t, ht, -, hstatus⟩ := execDecode_endsOk hw
  have hok : t.status = .ok := by simpa [hlegal] using hstatus
  obtain ⟨b, fs, hb, hfs, hbytes⟩ := ensuresOk_execDecode (fun _ => exec_header_frameBytes s) t ht hok
  exact ⟨t, b, fs, ht, hok, hb, hfs, hbytes, execDecode_probeHit s t ht⟩

/-- Settles O25: the checks that a successful header has passed put its counts, its bitrate and its indices in range. -/
theorem countsOfADecode : Obligations.CountsOfADecode := by
  intro s t ht hok
  obtain ⟨type, ch, ob, b, h⟩ := ensuresOk_execDecode (fun _ => exec_header_counted s) t ht hok
  have htype {type' : ContentType} (h' : t.record.contentType = some type') : type'.CountsFit ch ob := by
    cases h.contentType.symm.trans h'
    exact h.countsFit
  exact ⟨ch, ob, _, b, h.channelCount, h.objectCount, h.totalChannelCount, h.totalBitrate, totalChannels_toNat ch ob,
    (bitrateOk_iff.1 h.bitrateOk).1, fun hc => hc.elim htype htype, htype, htype, by simp [h.contentType],
    h.samplingRateIndex, h.resolutionIndex, h.channelConfigIndex, h.bitrateIndex, h.perObjectBitrateIndex⟩

/-- Settles O29: the closed form of every window reads the window and the parameters alone. -/
theorem decodeIsAFunctionOfTheWindow : Obligations.DecodeIsAFunctionOfTheWindow := fun _ _ => execDecode_sameResults

end Sys2Proof.Proofs
end

/-! # Proofs about the bitrate resolver: how large a total bitrate and a frame length can be (R164, R176)

Bounds on the entries of the ladders and of `SR_ROM` bound the total bitrate and the frame length of a decode; the default
ROM puts numbers in them. -/

section
namespace Sys2Proof.Machine

/-! ## The indexers answer entries of their ROMs -/

section
variable {P : Config.Params}

theorem mem_ladderEntries_of_ladder {c : Nat} {i : BitVec 4} {cause : Cause} {b : BitVec 32}
    (h : ladder P c i cause = .ok b) : b ∈ ladderEntries P c := by
  obtain ⟨hi, he⟩ | ⟨-, he⟩ := ladder_cases P c i cause
  · cases he.symm.trans h
    exact (List.takeWhile_sublist _).mem (List.getElem_mem hi)
  · cases he.symm.trans h

theorem mem_sr_of_srate {i : BitVec 4} {rate : BitVec 32} (h : srate P i = .ok rate) : rate ∈ P.rom.sr.toList := by
  obtain ⟨hi, he⟩ | ⟨-, he⟩ := srate_cases P i
  · cases he.symm.trans h
    exact Vector.mem_toList_iff.2 (Vector.getElem_mem hi)
  · cases he.symm.trans h

end

/-! ## The sampling rate and the total bitrate of a successful header -/

/-- The record holds a rate of `SR_ROM` (R126). -/
theorem exec_header_samplingRate {i : Instr} (s : State) (hi : isHeader i = true) :
    EnsuresOk (fun t => ∃ rate ∈ s.params.rom.sr.toList, t.record.samplingRate = some rate) (exec i s) := by
  cases i with
  | obj =>
    exact ensuresOk_prefixThen fun _ hrate => ensuresOk_entryAt fun _ _ => ensuresOk_entryAt fun _ _ =>
      ensuresOk_succeedAt ⟨_, mem_sr_of_srate hrate, rfl⟩
  | chb | hoa =>
    exact ensuresOk_prefixThen fun _ hrate => ensuresOk_entryAt fun _ _ => ensuresOk_entryAt fun _ _ =>
      ensuresOk_entryAt fun _ _ => ensuresOk_succeedAt ⟨_, mem_sr_of_srate hrate, rfl⟩
  | mix =>
    exact ensuresOk_prefixThen fun _ hrate => ensuresOk_entryAt fun _ _ => ensuresOk_entryAt fun _ _ =>
      ensuresOk_entryAt fun _ _ => ensuresOk_entryAt fun _ _ => ensuresOk_succeedAt ⟨_, mem_sr_of_srate hrate, rfl⟩
  | nop | probe | decode | framelen => cases hi

/-- The term of the objects in R161 and R162, with the most objects that a header can name (R68). -/
theorem mul_objectCountOf_le {b m : BitVec 32} (hb : b ≤ m) (raw : BitVec 7) :
    b.toNat * (objectCountOf raw).toNat ≤ m.toNat * 128 := by
  refine Nat.mul_le_mul (BitVec.le_def.1 hb) ?_
  rw [objectCountOf_toNat]
  exact raw.isLt

/-- The total bitrate is at most the largest soundbed and 128 of the largest object (R160 to R162): `l` bounds every
ladder, `m` the mono ladder. -/
theorem exec_header_totalBitrate_le {i : Instr} {s : State} {l m : BitVec 32} (hi : isHeader i = true)
    (hl : ∀ c, ∀ b ∈ ladderEntries s.params c, b ≤ l) (hm : ∀ b ∈ ladderEntries s.params 0, b ≤ m) :
    EnsuresOk (fun t => ∃ b, t.record.totalBitrate = some b ∧ b.toNat ≤ l.toNat + m.toNat * 128) (exec i s) := by
  cases i with
  | chb | hoa =>
    refine ensuresOk_prefixThen fun _ _ => ensuresOk_entryAt fun _ _ => ensuresOk_entryAt fun _ _ =>
      ensuresOk_entryAt fun b hb => ensuresOk_succeedAt ⟨_, rfl, ?_⟩
    rw [ladderBitrate_toNat]
    exact (BitVec.le_def.1 (hl _ b (mem_ladderEntries_of_ladder hb))).trans (Nat.le_add_right _ _)
  | obj nn sr ck1 oc obr res ck2 pad =>
    refine ensuresOk_prefixThen fun _ _ => ensuresOk_entryAt fun b hb => ensuresOk_entryAt fun _ _ =>
      ensuresOk_succeedAt ⟨_, rfl, ?_⟩
    rw [objectBitrate_toNat]
    exact (mul_objectCountOf_le (hm b (mem_ladderEntries_of_ladder hb)) oc).trans (Nat.le_add_left _ _)
  | mix nn sr ck1 cc br oc obr res ck2 pad =>
    refine ensuresOk_prefixThen fun _ _ => ensuresOk_entryAt fun _ _ => ensuresOk_entryAt fun b hb =>
      ensuresOk_entryAt fun ob hob => ensuresOk_entryAt fun _ _ => ensuresOk_succeedAt ⟨_, rfl, ?_⟩
    rw [mixBitrate_toNat _ _ _ (ladderBitrate_lt b), ladderBitrate_toNat]
    exact Nat.add_le_add (BitVec.le_def.1 (hl _ b (mem_ladderEntries_of_ladder hb)))
      (mul_objectCountOf_le (hm ob (mem_ladderEntries_of_ladder hob)) oc)
  | nop | probe | decode | framelen => cases hi

/-! ## The frame length (R171, R172, R176) -/

/-- Neither path rounds up past the next whole byte, so `n` bytes that hold the exact quotient `b * 128 / fs` are enough. -/
theorem frameLen_le_of_mul_le {b fs n : Nat} (hfs : 0 < fs) (h : b * 128 ≤ n * fs) : frameLen b fs ≤ n := by
  unfold frameLen
  split
  · rename_i h44100
    rw [h44100, Config.specialRate] at h
    have hfloor : b * 1024 / 44100 ≤ 8 * n := Nat.div_le_of_le_mul (by omega)
    unfold frameLenFloorFirst
    omega
  · refine Nat.le_of_lt_succ ((Nat.div_lt_iff_lt_mul hfs).2 ?_)
    rw [Nat.succ_mul]
    omega

theorem frameLenBits_toNat_le (b : BitVec 64) (fs : BitVec 32) : (frameLenBits b fs).toNat ≤ frameLen b.toNat fs.toNat :=
  Nat.mod_le _ _

/-! ## The entries of the default ROM (R111, R113) -/

theorem defaultParams_ladderEntries_le (c : Nat) : ∀ b ∈ ladderEntries Config.defaultParams c, b ≤ 896000 := by
  by_cases hc : c < 15
  · have hall : ∀ c < 15, (ladderEntries Config.defaultParams c).all (· ≤ 896000) = true := by decide
    simpa only [List.all_eq_true, decide_eq_true_eq] using hall c hc
  · simp [ladderEntries, hc]

theorem defaultParams_monoLadder_le : ∀ b ∈ ladderEntries Config.defaultParams 0, b ≤ 192000 := by
  have hall : (ladderEntries Config.defaultParams 0).all (· ≤ 192000) = true := by decide
  simpa only [List.all_eq_true, decide_eq_true_eq] using hall

theorem defaultParams_sr_ge : ∀ rate ∈ Config.defaultParams.rom.sr.toList, 8000 ≤ rate := by
  have hall : Config.defaultParams.rom.sr.toList.all (8000 ≤ ·) = true := by decide
  simpa only [List.all_eq_true, decide_eq_true_eq] using hall

end Sys2Proof.Machine
end

/-! # The obligations of the family of the bitrate resolver -/

section
namespace Sys2Proof.Proofs

open Machine

/-- Settles O26: it is part of what every successful header leaves in its record (`exec_header_counted`). -/
theorem totalBitrateBelowLimit : Obligations.TotalBitrateBelowLimit := by
  intro s t ht hok
  obtain ⟨_, _, _, b, h⟩ := ensuresOk_execDecode (fun _ => exec_header_counted s) t ht hok
  exact ⟨b, h.totalBitrate, (bitrateOk_iff.1 h.bitrateOk).2⟩

/-- Settles O27: the bitrate is at most `896000 + 192000 * 128`, and at 8000 Hz, the lowest rate, that bitrate fills 407552
bytes. -/
theorem largestWithTheDefaultRom : Obligations.LargestWithTheDefaultRom := by
  intro s t hP ht hok
  obtain ⟨b, hb, hlargest⟩ := ensuresOk_execDecode (fun _ hi => exec_header_totalBitrate_le (l := 896000) (m := 192000) hi
    (hP ▸ defaultParams_ladderEntries_le) (hP ▸ defaultParams_monoLadder_le)) t ht hok
  obtain ⟨fs, hmem, hfs⟩ := ensuresOk_execDecode (fun _ => exec_header_samplingRate s) t ht hok
  obtain ⟨b', fs', hb', hfs', hbytes⟩ := ensuresOk_execDecode (fun _ => exec_header_frameBytes s) t ht hok
  cases hb.symm.trans hb'
  cases hfs.symm.trans hfs'
  have hrate : 8000 ≤ fs.toNat := BitVec.le_def.1 (defaultParams_sr_ge fs (hP ▸ hmem))
  have hle : b.toNat ≤ 25472000 := hlargest
  have hlen : frameLen b.toNat fs.toNat ≤ 407552 := frameLen_le_of_mul_le (by omega) (by omega)
  exact ⟨b, _, hb, hle, hbytes, (frameLenBits_toNat_le b fs).trans hlen⟩

end Sys2Proof.Proofs
end

/-! # Proofs about the frame length calculator (R170 to R178)

Both paths are ceilings of exact quotients of naturals. Lemmas about such a ceiling give the rational formula, the
difference of the two paths, and the order. -/

section
namespace Sys2Proof.Machine

/-! ## The ceiling of an exact quotient -/

theorem natCeil_div_eq_ceilDiv (n : Nat) {d : Nat} (hd : 0 < d) : ⌈(n : Rat) / d⌉₊ = n ⌈/⌉ d :=
  eq_of_forall_ge_iff fun m => by
    have hd' : (0 : Rat) < d := Nat.cast_pos.2 hd
    rw [Nat.ceil_le, ceilDiv_le_iff_le_mul hd, div_le_iff₀' hd']
    norm_cast

theorem ceil_div_eq_ceilDiv (n : Nat) {d : Nat} (hd : 0 < d) : ⌈(n : Rat) / d⌉ = (n ⌈/⌉ d : Nat) := by
  rw [← natCeil_div_eq_ceilDiv n hd, Int.natCast_ceil_eq_ceil (by positivity)]

/-- Rounding up adds 1 to the floor, unless the division leaves no remainder. -/
theorem ceilDiv_eq_div_add (n : Nat) {d : Nat} (hd : 0 < d) : n ⌈/⌉ d = n / d + if d ∣ n then 0 else 1 := by
  cases n with
  | zero => simp
  | succ m =>
    have hfloor : (m + 1) ⌈/⌉ d = m / d + 1 := by
      rw [Nat.ceilDiv_eq_add_pred_div, Nat.add_right_comm, Nat.add_sub_cancel, Nat.add_div_right m hd]
    rw [hfloor, Nat.succ_div]
    split <;> rfl

/-! ## The two paths (R171, R172) -/

theorem frameLenFloorFirst_eq_ceilDiv (b : Nat) : frameLenFloorFirst b = (b * 1024 / 44100) ⌈/⌉ 8 := rfl

theorem frameLenSingleCeil_eq_ceilDiv (b fs : Nat) : frameLenSingleCeil b fs = (b * 128) ⌈/⌉ fs := rfl

theorem frameLen_specialRate (b : Nat) : frameLen b 44100 = frameLenFloorFirst b := if_pos rfl

theorem frameLen_of_ne {fs : Nat} (b : Nat) (h : fs ≠ 44100) : frameLen b fs = frameLenSingleCeil b fs := if_neg h

theorem frameLenExact_specialRate (b : Nat) : frameLenExact b 44100 = frameLenFloorFirst b := by
  have hbits : ⌊(b : Rat) / 44100 * 1024⌋ = (b * 1024 / 44100 : Nat) := by
    rw [div_mul_eq_mul_div]
    exact_mod_cast Rat.floor_natCast_div_natCast (b * 1024) 44100
  rw [frameLenExact, if_pos rfl, hbits, Int.cast_natCast, frameLenFloorFirst_eq_ceilDiv,
    ← ceil_div_eq_ceilDiv _ (by decide), Nat.cast_ofNat]

theorem frameLenExact_of_ne {fs : Nat} (b : Nat) (h0 : fs ≠ 0) (h : fs ≠ 44100) :
    frameLenExact b fs = frameLenSingleCeil b fs := by
  have hbytes : (b : Rat) / fs * 1024 / 8 = (b * 128 : Nat) / (fs : Rat) := by
    push_cast
    ring
  rw [frameLenExact, if_neg h, hbytes, ceil_div_eq_ceilDiv _ (Nat.pos_of_ne_zero h0), frameLenSingleCeil_eq_ceilDiv]

/-- A whole number of bytes is a whole number of bits that is a multiple of 8. -/
theorem dvd_mul_128_iff (b fs : Nat) : fs ∣ b * 128 ↔ fs ∣ b * 1024 ∧ 8 ∣ b * 1024 / fs := by
  rw [show b * 1024 = b * 128 * 8 by omega]
  constructor
  · intro h
    exact ⟨h.mul_right 8, Nat.mul_div_right_comm h 8 ▸ Nat.dvd_mul_left 8 _⟩
  · rintro ⟨h, h8⟩
    exact Nat.dvd_of_mul_dvd_mul_right (by decide : 0 < 8) ((Nat.dvd_div_iff_mul_dvd h).1 h8)

/-- The two paths have one floor, the whole bytes of the exact quotient; they differ in when they add 1 to it (R173). -/
theorem frameLenSingleCeil_eq_floorFirst_add {fs : Nat} (b : Nat) (hfs : fs ≠ 0) : frameLenSingleCeil b fs
    = (b * 1024 / fs + 7) / 8 + if ¬ fs ∣ b * 1024 ∧ 8 ∣ b * 1024 / fs then 1 else 0 := by
  have hfloor : b * 1024 / fs / 8 = b * 128 / fs := by
    rw [Nat.div_right_comm, show b * 1024 / 8 = b * 128 by omega]
  have hfirst : (b * 1024 / fs + 7) / 8 = (b * 1024 / fs) ⌈/⌉ 8 := rfl
  rw [frameLenSingleCeil_eq_ceilDiv, hfirst, ceilDiv_eq_div_add _ (Nat.pos_of_ne_zero hfs),
    ceilDiv_eq_div_add _ (by decide : 0 < 8), hfloor, Nat.add_assoc]
  by_cases hbits : fs ∣ b * 1024 <;> by_cases h8 : 8 ∣ b * 1024 / fs <;> simp [dvd_mul_128_iff, hbits, h8]

/-! ## The order (R178) -/

theorem frameLenSingleCeil_pos {b fs : Nat} (hb : 1 ≤ b) (hfs : fs ≠ 0) : 1 ≤ frameLenSingleCeil b fs :=
  Nat.div_pos (by omega) (Nat.pos_of_ne_zero hfs)

theorem frameLen_mono {b b' : Nat} (fs : Nat) (h : b ≤ b') : frameLen b fs ≤ frameLen b' fs := by
  unfold frameLen frameLenFloorFirst frameLenSingleCeil
  split <;> gcongr

/-! ## The operands outside the domain, and those of a DECODE (R190, R142) -/

theorem execFramelen_of_undefined {s : State} (h : frameLenDefined s.flbL s.flfsL = false) :
    execFramelen s = .next (s.raiseInvalid .flDom) := by
  simp [execFramelen, h]

theorem ne_zero_of_mem_sr {P : Config.Params} {rate : BitVec 32} (h : rate ∈ P.rom.sr.toList) : rate ≠ 0 := by
  obtain ⟨i, hi, rfl⟩ := Vector.mem_iff_getElem.1 (Vector.mem_toList_iff.1 h)
  exact rom_sr_ne_zero P i hi

theorem execDecode_bitrate_rate_ne_zero (s : State) : EnsuresOk
    (fun t => ∃ b fs, t.record.totalBitrate = some b ∧ t.record.samplingRate = some fs ∧ b ≠ 0 ∧ fs ≠ 0)
    (execDecode s) := by
  intro t ht hok
  obtain ⟨_, _, _, b, h⟩ := ensuresOk_execDecode (fun _ => exec_header_counted s) t ht hok
  obtain ⟨fs, hmem, hfs⟩ := ensuresOk_execDecode (fun _ => exec_header_samplingRate s) t ht hok
  have hb : b ≠ 0 := by
    rintro rfl
    exact absurd (bitrateOk_iff.1 h.bitrateOk).1 (by decide)
  exact ⟨b, fs, h.totalBitrate, hfs, hb, ne_zero_of_mem_sr hmem⟩

end Sys2Proof.Machine
end

/-! # The obligations of the family of the frame length -/

section
namespace Sys2Proof.Proofs

open Machine

/-- Settles O36, path by path. -/
theorem frameLenIsExact : Obligations.FrameLenIsExact := by
  intro b fs h0
  by_cases h : fs = 44100
  · rw [h, frameLen_specialRate, frameLenExact_specialRate]
  · rw [frameLen_of_ne b h, frameLenExact_of_ne b h0 h]

/-- Settles O37: the rule is `frameLenSingleCeil_eq_floorFirst_add`, and its examples are evaluated. -/
theorem roundingPathsDiffer : Obligations.RoundingPathsDiffer :=
  ⟨fun b _ hfs => frameLenSingleCeil_eq_floorFirst_add b hfs, by decide⟩

/-- Settles O38: the zero bitrate by the general bound, the bitrates up to 43 by monotonicity, and the DECODE clause by
what every successful header leaves in its record. -/
theorem frameLenCorners : Obligations.FrameLenCorners := by
  refine ⟨fun fs hfs => ?_, fun b fs hb hfs h => ?_, by decide, fun b hb => ?_, by decide, by decide, by decide,
    by decide, by decide, fun _ _ fs _ h => frameLen_mono fs h, fun s hs => ?_, execDecode_bitrate_rate_ne_zero⟩
  · exact Nat.le_zero.1 (frameLen_le_of_mul_le (Nat.pos_of_ne_zero hfs) (by simp))
  · exact frameLen_of_ne b h ▸ frameLenSingleCeil_pos hb hfs
  · exact Nat.le_zero.1 ((frameLen_mono 44100 hb).trans (by decide))
  · exact ⟨_, execFramelen_of_undefined (by simp [frameLenDefined, hs]), rfl⟩

/-- Settles O39: `b * 128` bytes hold the quotient of every rate of at least 1. -/
theorem frameLenFits : Obligations.FrameLenFits := by
  intro b fs hfs
  have hle : frameLen b fs ≤ b * 128 := frameLen_le_of_mul_le hfs (Nat.le_mul_of_pos_right _ hfs)
  exact ⟨hle, fun hb => by omega⟩

end Sys2Proof.Proofs
end

/-! # Proofs about the commands: PROBE, FRAMELEN, the end of every command, and a placed word (R185 to R190) -/

section
namespace Sys2Proof.Machine

open Host (Outcome)

/-! ## The window as its nine bytes (R44) -/

theorem windowOfBytes_windowBytesOf (w : Window) : windowOfBytes (windowBytesOf w) = some w := by
  have hbytes := memRead_all w
  change memRead w 0 (8 + 8 + 8 + 8 + 8 + 8 + 8 + 8 + 8) = w at hbytes
  simp (disch := decide) only [memRead_append] at hbytes
  exact congrArg some hbytes

theorem decodeBytes_windowBytesOf (w : Window) : decodeBytes (windowBytesOf w) = decodeWindow w := by
  simp only [decodeBytes, windowOfBytes_windowBytesOf]

/-! ## The sync match of the probe (R188) -/

/-- The sync word is the whole first byte and the upper half of the second one. -/
theorem probeMatches_iff (w : Window) :
    probeMatches w = true ↔ windowByte w 0 = 0xFF ∧ 0xF0 ≤ (windowByte w 1).toNat := by
  have hword : (probeWord w).toNat = (windowByte w 0).toNat * 256 + (windowByte w 1).toNat :=
    toNat_append_eq_add _ _
  have h0 := (windowByte w 0).isLt
  have h1 := (windowByte w 1).isLt
  rw [probeMatches, beq_iff_eq, ← BitVec.toNat_inj, ← BitVec.toNat_inj, BitVec.toNat_ushiftRight,
    Nat.shiftRight_eq_div_pow, hword]
  change (_ / 2 ^ 4 = 4095) ↔ (_ = 255 ∧ 240 ≤ _)
  omega

theorem ofBool_eq_ite {b : Bool} {P : Prop} [Decidable P] (h : b = true ↔ P) :
    BitVec.ofBool b = if P then 1 else 0 := by
  by_cases hP : P
  · rw [if_pos hP, h.2 hP]
    rfl
  · rw [if_neg hP, Bool.eq_false_iff.2 (mt h.1 hP)]
    rfl

/-! ## FRAMELEN on both sides of its domain (R190) -/

theorem frameLenDefined_iff {b : BitVec 64} {fs : BitVec 32} :
    frameLenDefined b fs = true ↔ fs ≠ 0 ∧ b.toNat < 2 ^ 54 := by
  rw [frameLenDefined, Bool.and_eq_true, bne_iff_ne, decide_eq_true_iff]
  rfl

theorem execFramelen_of_defined {s : State} (h : frameLenDefined s.flbL s.flfsL = true) :
    execFramelen s = .next { s with frameBytes := some (frameLenBits s.flbL s.flfsL) }.complete := by
  rw [execFramelen, if_pos h]

/-- In its domain the frame length fits FRAME_BYTES (R176). -/
theorem frameLenBits_toNat {b : BitVec 64} {fs : BitVec 32} (hfs : fs ≠ 0) (hb : b.toNat < 2 ^ 54) :
    (frameLenBits b fs).toNat = frameLen b.toNat fs.toNat := by
  have hlt := ((Proofs.frameLenFits b.toNat fs.toNat (pos_of_ne_zero hfs)).2 hb).1
  exact Nat.mod_eq_of_lt (hlt.trans (by decide))

/-! ## Every command but NOP comes to its end (R187) -/

/-- `o` answers a next state in S_IDLE, with OK or INVALID. -/
def Completes (o : Outcome State Fault Refusal) : Prop :=
  Answers (fun t => t.fsm = .idle ∧ (t.status = .ok ∨ t.status = .invalid)) o

theorem EndsOk.completes {ok : Bool} {o : Outcome State Fault Refusal} (h : EndsOk ok o) : Completes o := by
  obtain ⟨t, ht, hidle, hstatus⟩ := h
  refine ⟨t, ht, hidle, ?_⟩
  cases ok with
  | true => exact .inl hstatus
  | false => exact .inr hstatus

theorem execDecode_completes (s : State) : Completes (execDecode s) := by
  cases hw : decodeWindow s.w with
  | ok i => exact (execDecode_endsOk hw).completes
  | error e => exact (execDecode_of_error hw).completes

theorem execFramelen_completes (s : State) : Completes (execFramelen s) :=
  answers_ite (fun _ => answers_next ⟨rfl, .inl rfl⟩) fun _ => answers_next ⟨rfl, .inr rfl⟩

theorem exec_completes {i : Instr} (s : State) (hi : i ≠ .nop) : Completes (exec i s) := by
  cases i with
  | chb | obj | mix | hoa => exact (exec_header_endsOk s rfl).completes
  | nop => exact absurd rfl hi
  | probe => exact answers_next ⟨rfl, .inl rfl⟩
  | decode => exact execDecode_completes s
  | framelen => exact execFramelen_completes s

/-! ## A short stream (R197) -/

theorem Source.readHeader_short {src : Source} (h : src.bytes.length < src.pos + 9) : src.readHeader = none := by
  rw [Source.readHeader, Source.read_short (n := Config.headerBytes) h (by decide)]

/-! ## A placed word (log 12, log 13) -/

/-- A placed sample that asks for a start is the one that the next edge runs. -/
theorem step_present {s : State} {p : PortSample} (hr : p.rst = false) (hs : p.start = true)
    (hp : p.pace = .command) : step (s.present p) = exec (fetch p) ((s.present p).advance.begin p) := by
  have hb : (s.present p).status ≠ .busy := by
    simp only [State.present]
    split
    · simp
    · assumption
  exact step_start (s := s.present p) rfl hr hs hb hp

theorem decodeTableWord_header (w : Window) : decodeTableWord 72 w.toNat = (decodeWindow w).toOption := by
  simp only [decodeTableWord, w.isLt, and_self, if_true, BitVec.ofNat_toNat, BitVec.setWidth_eq,
    decodeBytes_windowBytesOf]

theorem decodeTableWord_command (c : BitVec 2) : decodeTableWord 8 c.toNat = some (decodeCommand c) := by
  revert c
  decide

/-- A request of a command over a window that holds no header fetches the command. -/
theorem fetch_request_zero (c : BitVec 2) : fetch (PortSample.request c 0) = decodeCommand c := by
  revert c
  decide

end Sys2Proof.Machine
end

/-! # Proofs about the runs: how a run is cut does not matter (R187, D26) -/

section
namespace Sys2Proof.Machine

open Host (Outcome)

/-! ## No run is out of states -/

/-- `o` is not the stop of a run that is out of states. -/
def Progresses (o : Outcome State Fault Refusal) : Prop := o ≠ .fault .noProgress

theorem progresses_withRead {n : Nat} {s : State} {k : BitVec n → State → Outcome State Fault Refusal}
    (h : ∀ v t, Progresses (k v t)) : Progresses (withRead n s k) := by
  unfold withRead
  split_ifs
  · exact h _ _
  · nofun
  · nofun

theorem progresses_withSkip {n : Nat} {s : State} {k : State → Outcome State Fault Refusal}
    (h : ∀ t, Progresses (k t)) : Progresses (withSkip n s k) := by
  unfold withSkip
  split_ifs
  · exact h _
  · nofun

theorem progresses_withEntry {α : Type} {s : State} {e : Except Cause α} {k : α → Outcome State Fault Refusal}
    (h : ∀ v, Progresses (k v)) : Progresses (withEntry s e k) := by
  cases e with
  | ok v => exact h v
  | error c => nofun

theorem progresses_ite {c : Prop} [Decidable c] {a b : Outcome State Fault Refusal} (ha : Progresses a)
    (hb : Progresses b) : Progresses (if c then a else b) := by
  split
  · exact ha
  · exact hb

theorem progresses_ladderEntry {s : State} {c : Nat} {i : BitVec 4} {cause : Cause}
    {k : BitVec 32 → Outcome State Fault Refusal} (h : ∀ b, Progresses (k b)) :
    Progresses (ladderEntry s c i cause k) :=
  progresses_ite (progresses_withEntry h) nofun

theorem progresses_next {t : State} : Progresses (.next t) := nofun

theorem micro_progresses (s : State) : Progresses (micro s) := by
  unfold micro
  cases s.fsm with
  | idle | sProbe | s9Total => exact progresses_next
  | s1Sync | s2Codec | s3Anc | s4Nn =>
    exact progresses_withRead fun _ _ => progresses_ite progresses_next progresses_next
  | s5Profile | s8b0ObjCnt | s8b1ObjCnt => exact progresses_withRead fun _ _ => progresses_next
  | s7Skip1 | s12Skip2 => exact progresses_withSkip fun _ => progresses_next
  | s6SrIdx | s8aChCfg | s8b1ChCfg | s8cOrder | s10Res =>
    exact progresses_withRead fun _ _ => progresses_withEntry fun _ => progresses_next
  | s8b0ObjBr | s8b1Br | s8b1ObjBr =>
    exact progresses_withRead fun _ _ => progresses_ladderEntry fun _ => progresses_next
  | s8Branch =>
    exact progresses_ite progresses_next (progresses_ite progresses_next
      (progresses_ite progresses_next progresses_next))
  | s8bSbType =>
    exact progresses_withRead fun _ _ => progresses_ite progresses_next (progresses_ite progresses_next progresses_next)
  | s11Br =>
    exact progresses_ite (progresses_withRead fun _ _ => progresses_ladderEntry fun _ => progresses_next)
      progresses_next
  | s13Done => exact progresses_ite progresses_next nofun
  | sFlc => exact progresses_ite progresses_next progresses_next

/-- A run that may pass `n` states is enough for `s`: `Fsm` lists no more than `n` from the state of `s` on. -/
def State.Fuelled (s : State) (n : Nat) : Prop := s.fsm = .idle ∨ fsmStates ≤ n + s.fsm.ctorIdx

theorem State.fuelled_fsmStates (s : State) : s.Fuelled fsmStates := .inr (Nat.le_add_right _ _)

theorem State.Fuelled.idle {s : State} (h : s.Fuelled 0) : s.fsm = .idle := by
  obtain hi | hn := h
  · exact hi
  · have hlt := s.fsm.ctorIdx_lt_fsmStates
    omega

/-- One FSM state uses one unit of fuel. -/
theorem State.Fuelled.micro {s t : State} {n : Nat} (h : s.Fuelled (n + 1)) (hi : s.fsm ≠ .idle)
    (ht : micro s = .next t) : t.Fuelled n := by
  have hlater := s.fsm.idle_or_later_of_mem_successors t.fsm (micro_fsmStep s t ht).mem_successors
  have hn := h.resolve_left hi
  exact hlater.imp_right fun _ => by omega

/-- A run with enough fuel does not run out. -/
theorem finishWithin_progresses {n : Nat} {s : State} (h : s.Fuelled n) : Progresses (finishWithin n s) := by
  induction n generalizing s with
  | zero => exact finishWithin_idle 0 s h.idle ▸ progresses_next
  | succ n ih =>
    by_cases hi : s.fsm = .idle
    · exact finishWithin_idle _ s hi ▸ progresses_next
    · rw [finishWithin, if_neg hi]
      split
      · exact ih (h.micro hi ‹_›)
      · rename_i r hr
        rw [← hr]
        exact micro_progresses s
      · nofun

/-- More fuel than enough does not matter. -/
theorem finishWithin_succ {n : Nat} {s : State} (h : s.Fuelled n) : finishWithin (n + 1) s = finishWithin n s := by
  induction n generalizing s with
  | zero => rw [finishWithin_idle _ s h.idle, finishWithin_idle _ s h.idle]
  | succ n ih =>
    by_cases hi : s.fsm = .idle
    · rw [finishWithin_idle _ s hi, finishWithin_idle _ s hi]
    · rw [finishWithin, finishWithin, if_neg hi, if_neg hi]
      split
      · exact ih (h.micro hi ‹_›)
      · rfl
      · rfl

/-! ## Cutting a run -/

theorem finish_idle {s : State} (h : s.fsm = .idle) : finish s = .next s := finishWithin_idle _ s h

/-- One FSM state and then the rest is the whole (D26). -/
theorem finish_micro {s t : State} (h : micro s = .next t) : finish t = finish s := by
  by_cases hi : s.fsm = .idle
  · simp only [micro, hi] at h
    cases h
    rfl
  · have ht : t.Fuelled 24 := s.fuelled_fsmStates.micro hi h
    calc finish t
      _ = finishWithin 24 t := finishWithin_succ ht
      _ = finish s := (finishWithin_micro hi h).symm

/-- A command of one FSM state. -/
theorem finish_of_micro_idle {s t : State} (h : micro s = .next t) (ht : t.fsm = .idle) : finish s = .next t := by
  rw [← finish_micro h, finish_idle ht]

/-- The run of a command that has been started is the atomic command (R187, D26); for NOP, in S_IDLE. -/
theorem exec_fetch_begin {s : State} {p : PortSample} (h : p.cmd = 0 → s.fsm = .idle) :
    exec (fetch p) (s.begin p) = finish (s.begin p) := by
  obtain hc | hc | hc | hc := cmd_cases p.cmd
  · rw [fetch_command (by simp [hc]), hc, s.begin_nop p hc, finish_idle (h hc)]
    rfl
  · have hf : (s.begin p).fsm = .sProbe := by rw [s.begin_probe p hc]
    rw [fetch_command (by simp [hc]), hc]
    exact (finish_of_micro_idle (micro_sProbe hf) rfl).symm
  · have hrun : finish (s.begin p) = execDecode (s.begin p) := by
      rw [s.begin_decode p hc]
      rfl
    have hw : (s.begin p).w = p.win := by
      rw [s.begin_decode p hc]
      rfl
    rw [hrun]
    cases hwin : decodeWindow p.win with
    | ok i => rw [fetch_header hc hwin, execDecode_of_decodeWindow (hw ▸ hwin)]
    | error e => rw [fetch_noHeader hc hwin]; rfl
  · have hf : (s.begin p).fsm = .sFlc := by rw [s.begin_framelen p hc]
    obtain ⟨t, ht, hidle, -⟩ := execFramelen_completes (s.begin p)
    rw [fetch_command (by simp [hc]), hc, finish_of_micro_idle ((micro_sFlc hf).trans ht) hidle]
    exact ht

end Sys2Proof.Machine
end

/-! # Proofs about the runs: the number of edges does not matter (R187, U13)

An FSM state looks neither at the inputs nor, where its operands hold values, at the edge count (log 7). So the end of
the command in progress, up to these two fields of the model, is the same at every edge of the run. -/

section
namespace Sys2Proof.Machine

open Host (Outcome)

/-! ## The inputs and the edge count have no influence on a command -/

/-- The state with the model's own inputs and edge count replaced. -/
def State.retime (s : State) (is : List PortSample) (k : Nat) : State := { s with inputs := is, tick := k }

/-- The outcome with those of its next state replaced. -/
def retimeNext (is : List PortSample) (k : Nat) : Outcome State Fault Refusal → Outcome State Fault Refusal
  | .next t => .next (t.retime is k)
  | .fault r => .fault r
  | .refused r => .refused r

section
variable {s : State} {is : List PortSample} {k : Nat}

theorem raiseInvalid_retime (c : Cause) : (s.retime is k).raiseInvalid c = (s.raiseInvalid c).retime is k := by
  cases c <;> rfl

theorem failWith_retime {c : Cause} : failWith (s.retime is k) c = retimeNext is k (failWith s c) :=
  congrArg Outcome.next (raiseInvalid_retime c)

theorem ite_retime {c : Prop} [Decidable c] {a b a' b' : Outcome State Fault Refusal} (ha : a' = retimeNext is k a)
    (hb : b' = retimeNext is k b) : (if c then a' else b') = retimeNext is k (if c then a else b) := by
  split
  · exact ha
  · exact hb

theorem withRead_retime {n : Nat} {f g : BitVec n → State → Outcome State Fault Refusal}
    (h : ∀ v, g v ((s.advancePos n).retime is k) = retimeNext is k (f v (s.advancePos n))) :
    withRead n (s.retime is k) g = retimeNext is k (withRead n s f) :=
  ite_retime (ite_retime (h _) rfl) rfl

theorem withSkip_retime {n : Nat} {f g : State → Outcome State Fault Refusal}
    (h : g ((s.advancePos n).retime is k) = retimeNext is k (f (s.advancePos n))) :
    withSkip n (s.retime is k) g = retimeNext is k (withSkip n s f) :=
  ite_retime h rfl

theorem withEntry_retime {α : Type} {e : Except Cause α} {f g : α → Outcome State Fault Refusal}
    (h : ∀ v, g v = retimeNext is k (f v)) : withEntry (s.retime is k) e g = retimeNext is k (withEntry s e f) := by
  cases e with
  | ok v => exact h v
  | error c => exact failWith_retime

/-! ### The states of the grammar that read what an earlier one wrote: the invariant says that it holds a value -/

theorem State.Decoding.s8Branch_retime (h : s.Decoding .s8Branch) :
    micro (s.retime is k) = retimeNext is k (micro s) := by
  have hready := h.ready
  simp only [operandsReady, Bool.and_eq_true, Option.isSome_iff_exists] at hready
  obtain ⟨⟨-, p, hp⟩, -⟩ := hready
  rw [micro_s8Branch h.fsm hp, micro_s8Branch (s := s.retime is k) h.fsm hp]
  exact ite_retime rfl (ite_retime rfl (ite_retime rfl failWith_retime))

theorem State.Decoding.s8b0ObjBr_retime (h : s.Decoding .s8b0ObjBr) :
    micro (s.retime is k) = retimeNext is k (micro s) := by
  have hready := h.ready
  simp only [operandsReady, Bool.and_eq_true, holds_iff] at hready
  obtain ⟨-, n, hn, -⟩ := hready
  rw [micro_s8b0ObjBr h.fsm h.inside hn, micro_s8b0ObjBr (s := s.retime is k) h.fsm h.inside hn]
  exact withEntry_retime (s := s.advancePos 4) fun _ => rfl

theorem State.Decoding.s8b1Br_retime (h : s.Decoding .s8b1Br) :
    micro (s.retime is k) = retimeNext is k (micro s) := by
  have hready := h.ready
  rw [operandsReady, Bool.and_eq_true, holds_iff] at hready
  obtain ⟨-, c, hc, hcfg⟩ := hready
  have hlt := Nat.lt_succ_of_lt (toNat_lt_of_cfgOk hcfg)
  rw [micro_s8b1Br h.fsm h.inside hc hlt, micro_s8b1Br (s := s.retime is k) h.fsm h.inside hc hlt]
  exact withEntry_retime (s := s.advancePos 4) fun _ => rfl

theorem State.Decoding.s8b1ObjBr_retime (h : s.Decoding .s8b1ObjBr) :
    micro (s.retime is k) = retimeNext is k (micro s) := by
  have hready := h.ready
  simp only [operandsReady, Bool.and_eq_true, holds_iff] at hready
  obtain ⟨⟨-, sb, hsb, -⟩, n, hn, -⟩ := hready
  rw [micro_s8b1ObjBr h.fsm h.inside hn hsb, micro_s8b1ObjBr (s := s.retime is k) h.fsm h.inside hn hsb]
  exact withEntry_retime (s := s.advancePos 4) fun _ => rfl

theorem State.Decoding.s9Total_retime (h : s.Decoding .s9Total) :
    micro (s.retime is k) = retimeNext is k (micro s) := by
  have hready := h.ready
  simp only [operandsReady, Record.branchDone, Bool.and_eq_true, Option.isSome_iff_exists] at hready
  obtain ⟨-, ⟨⟨-, c, hc⟩, o, ho⟩, -⟩ := hready
  rw [micro_s9Total h.fsm hc ho, micro_s9Total (s := s.retime is k) h.fsm hc ho]
  rfl

theorem State.Decoding.s11Br_retime (h : s.Decoding .s11Br) :
    micro (s.retime is k) = retimeNext is k (micro s) := by
  have hready := h.ready
  simp only [operandsReady, Record.branchDone, Bool.and_eq_true] at hready
  obtain ⟨-, ⟨⟨hm, -⟩, -⟩, hlast⟩ := hready
  obtain ⟨p, hp⟩ := Record.codingProfile_of_profileMatches hm
  by_cases h1 : p = 1
  · subst h1
    rw [micro_s11Br_profile1 h.fsm hp, micro_s11Br_profile1 (s := s.retime is k) h.fsm hp]
    rfl
  · have hne : s.record.codingProfile ≠ some 1 := by simpa [hp] using h1
    rw [if_neg hne, holds_iff] at hlast
    obtain ⟨c, hc, hcfg⟩ := hlast
    have hlt := Nat.lt_succ_of_lt (toNat_lt_of_cfgOk hcfg)
    have hin : s.pos.toNat + 4 ≤ 72 := h.inside (entryPos_s11Br_add hm hne ▸ Fsm.entryPos_le _ _)
    rw [micro_s11Br h.fsm hin hp h1 hc hlt, micro_s11Br (s := s.retime is k) h.fsm hin hp h1 hc hlt]
    exact withEntry_retime (s := s.advancePos 4) fun _ => rfl

theorem State.Decoding.s13Done_retime (h : s.Decoding .s13Done) :
    micro (s.retime is k) = retimeNext is k (micro s) := by
  have hready := h.ready
  simp only [operandsReady, Bool.and_eq_true, holds_iff] at hready
  obtain ⟨⟨⟨fs, hfs, hfs0⟩, -⟩, b, hb, hbok⟩ := hready
  have hdef := frameLenDefined_of_ok hbok hfs0
  rw [micro_s13Done h.fsm hb hfs hdef, micro_s13Done (s := s.retime is k) h.fsm hb hfs hdef]
  rfl

@[simp] theorem State.retime_fsm : (s.retime is k).fsm = s.fsm := rfl

/-- An FSM state looks at neither the inputs nor the edge count. -/
theorem micro_retime (h : s.Inv = true) : micro (s.retime is k) = retimeNext is k (micro s) := by
  have decoding {f : Fsm} (hf : s.fsm = f) (hd : f.inDecode = true) : s.Decoding f :=
    (State.inv_iff_decoding hf hd).1 h
  cases hf : s.fsm with
  | s8Branch => exact (decoding hf rfl).s8Branch_retime
  | s8b0ObjBr => exact (decoding hf rfl).s8b0ObjBr_retime
  | s8b1Br => exact (decoding hf rfl).s8b1Br_retime
  | s8b1ObjBr => exact (decoding hf rfl).s8b1ObjBr_retime
  | s9Total => exact (decoding hf rfl).s9Total_retime
  | s11Br => exact (decoding hf rfl).s11Br_retime
  | s13Done => exact (decoding hf rfl).s13Done_retime
  | idle | sProbe =>
    simp only [micro, State.retime_fsm, hf]
    rfl
  | s1Sync | s2Codec | s3Anc | s4Nn =>
    simp only [micro, State.retime_fsm, hf]
    exact withRead_retime fun _ => ite_retime rfl failWith_retime
  | s5Profile | s8b0ObjCnt | s8b1ObjCnt =>
    simp only [micro, State.retime_fsm, hf]
    exact withRead_retime fun _ => rfl
  | s7Skip1 | s12Skip2 =>
    simp only [micro, State.retime_fsm, hf]
    exact withSkip_retime rfl
  | s6SrIdx | s8aChCfg | s8b1ChCfg | s8cOrder | s10Res =>
    simp only [micro, State.retime_fsm, hf]
    exact withRead_retime fun _ => withEntry_retime fun _ => rfl
  | s8bSbType =>
    simp only [micro, State.retime_fsm, hf]
    exact withRead_retime fun _ => ite_retime rfl (ite_retime rfl failWith_retime)
  | sFlc =>
    simp only [micro, State.retime_fsm, hf]
    exact ite_retime rfl rfl

/-- A run looks at neither the inputs nor the edge count. -/
theorem finish_retime (h : s.Inv = true) : finish (s.retime is k) = retimeNext is k (finish s) := by
  suffices run : ∀ n (s : State), s.Inv = true →
      finishWithin n (s.retime is k) = retimeNext is k (finishWithin n s) from run fsmStates s h
  intro n
  induction n with
  | zero => exact fun s _ => ite_retime rfl rfl
  | succ n ih =>
    intro s h
    obtain ⟨t, ht, hinv⟩ := micro_of_inv h
    rw [finishWithin, finishWithin, micro_retime h, ht]
    exact ite_retime rfl (ih t hinv)

end

/-! ## Where the command in progress will end -/

/-- The command in progress in `s`, or none in S_IDLE, will end in `v`, with the inputs and the edge count of `s`. -/
structure EndsIn (v s : State) : Prop where
  inv : s.Inv = true
  run : finish s = .next (v.retime s.inputs s.tick)

section
variable {s t v : State}

theorem finish_keepsInputs (s : State) : Ensures (KeepsInputs s) (finish s) :=
  ensures_finish (fun u hu t ht => hu.trans (micro_fsmStep u t ht).keepsInputs) (.refl s)

/-- From every state that meets the invariant the command in progress will end (R187). -/
theorem exists_endsIn (h : s.Inv = true) : ∃ v, EndsIn v s := by
  obtain ⟨v, hv, -⟩ := answers_finish (fun _ => micro_of_inv) h
  have hkeeps := finish_keepsInputs s v hv
  refine ⟨v, h, hv.trans ?_⟩
  rw [← hkeeps.inputs, ← hkeeps.tick]
  rfl

/-- A run ends in S_IDLE. -/
theorem fsm_idle_of_finish (h : finish s = .next t) : t.fsm = .idle := by
  suffices run : ∀ n s, finishWithin n s = .next t → t.fsm = .idle from run fsmStates s h
  intro n
  induction n with
  | zero =>
    intro s h
    rw [finishWithin] at h
    split at h
    · cases h
      assumption
    · cases h
  | succ n ih =>
    intro s h
    rw [finishWithin] at h
    split at h
    · cases h
      assumption
    · split at h
      · exact ih _ h
      · cases h
      · cases h

theorem EndsIn.retime (h : EndsIn v s) (is : List PortSample) (k : Nat) : EndsIn v (s.retime is k) :=
  ⟨h.inv, by rw [finish_retime h.inv, h.run]; rfl⟩

/-- Where the command has ended. -/
theorem EndsIn.eq_of_idle (h : EndsIn v s) (hf : s.fsm = .idle) : s = v.retime s.inputs s.tick :=
  Outcome.next.inj ((finish_idle hf).symm.trans h.run)

theorem fsm_idle_of_inv (h : s.Inv = true) (hb : s.status ≠ .busy) : s.fsm = .idle := by
  obtain ⟨-, hbusy, -⟩ := s.inv_iff.1 h
  exact not_not.1 (mt hbusy.2 hb)

/-- An edge without a start does not change where the command in progress will end, at any pace. -/
theorem EndsIn.of_runEdge {p : PortSample} (h : EndsIn v s) (ht : runEdge p s = .next t) :
    EndsIn v t ∧ t.inputs = s.inputs := by
  unfold runEdge at ht
  cases hp : p.pace with
  | hold =>
    rw [hp] at ht
    cases ht
    exact ⟨h, rfl⟩
  | state =>
    rw [hp] at ht
    have hkeeps := (micro_fsmStep s t ht).keepsInputs
    refine ⟨⟨(micro_of_inv h.inv).ensures t ht, ?_⟩, hkeeps.inputs⟩
    rw [finish_micro ht, h.run, hkeeps.inputs, hkeeps.tick]
  | command =>
    rw [hp] at ht
    refine ⟨⟨finish_of_inv h.inv t ht, ?_⟩, ?_⟩
    · rw [finish_idle (fsm_idle_of_finish ht)]
      cases ht.symm.trans h.run
      rfl
    · cases ht.symm.trans h.run
      rfl

/-- Edges without reset and start do not change where the command in progress will end. -/
theorem EndsIn.of_edges {qs : List PortSample} (hqs : ∀ q ∈ qs, q.rst = false ∧ q.start = false) (h : EndsIn v s)
    (hs : s.inputs = qs) (ht : edges qs.length s = .next t) : EndsIn v t ∧ t.inputs = [] := by
  induction qs generalizing s with
  | nil =>
    cases ht
    exact ⟨h, hs⟩
  | cons q qs ih =>
    have hport : s.port = q := by rw [State.port, hs]; rfl
    obtain ⟨hr, hstart⟩ := hqs q (by simp)
    have hstep : step s = runEdge q s.advance := by
      rw [step_after_reset (State.resetDone_of_inv h.inv) (hport ▸ hr), hport, starts, hstart, Bool.and_false]
      rfl
    rw [List.length_cons, edges, hstep] at ht
    split at ht
    next u hu =>
      obtain ⟨hends, hinputs⟩ := (h.retime s.inputs.tail (s.tick + 1)).of_runEdge hu
      have htail : u.inputs = qs := by rw [hinputs, State.retime, hs]; rfl
      exact ih (fun q' hq' => hqs q' (by simp [hq'])) hends htail ht
    next => cases ht
    next => cases ht

end

/-! ## The first edge -/

/-- The state after the start of the command that an edge with the ports `p` starts, if it starts one. -/
def State.started (s : State) (p : PortSample) : State := if starts p s then s.begin p else s

section
variable {s t v : State} {p : PortSample}

theorem State.started_retime (is : List PortSample) (k : Nat) :
    (s.retime is k).started p = (s.started p).retime is k := by
  have hbegin : (s.retime is k).begin p = (s.begin p).retime is k := by
    unfold State.begin
    split_ifs <;> rfl
  have hstarts : starts p (s.retime is k) = starts p s := rfl
  rw [State.started, State.started, hbegin, hstarts]
  split <;> rfl

theorem State.started_inv (h : s.Inv = true) : (s.started p).Inv = true := by
  unfold State.started
  split
  · exact (State.resting_of_starts h ‹_›).begin_inv p
  · exact h

/-- An edge without reset starts a command, if it does, and then gets on with it as at some pace, at its own if that is
`command`: for a start at pace `command` the atomic command is the run (`exec_fetch_begin`). -/
theorem step_eq_runEdge_started (h : s.Inv = true) (hr : s.port.rst = false) :
    ∃ q, (s.port.pace = .command → q.pace = .command) ∧ step s = runEdge q (s.advance.started s.port) := by
  have hadvance : starts s.port s.advance = starts s.port s := rfl
  rw [step_after_reset (State.resetDone_of_inv h) hr, State.started, hadvance]
  split
  next hs =>
    cases hp : s.port.pace with
    | hold | state =>
      refine ⟨{ s.port with pace := .hold }, nofun, ?_⟩
      rw [startEdge, hp]
      rfl
    | command =>
      refine ⟨s.port, fun _ => hp, ?_⟩
      rw [startEdge, runEdge, hp]
      exact exec_fetch_begin fun _ => (State.resting_of_starts h hs).fsm
  next => exact ⟨s.port, id, rfl⟩

/-- At pace `command` the first edge reaches the end of the command at once, with no inputs left. -/
theorem EndsIn.step_command (h : EndsIn v (s.started p)) (hs : s.Inv = true) (hr : p.rst = false) :
    step { s with inputs := [{ p with pace := .command }] } = .next (v.retime [] (s.tick + 1)) := by
  obtain ⟨q, hpace, hstep⟩ :=
    step_eq_runEdge_started (s := { s with inputs := [{ p with pace := .command }] }) hs hr
  have hstarted : State.started (s.retime [] (s.tick + 1)) { p with pace := .command }
      = (s.started p).retime [] (s.tick + 1) := State.started_retime [] (s.tick + 1)
  rw [hstep, runEdge, hpace rfl]
  exact (congrArg finish hstarted).trans (h.retime [] (s.tick + 1)).run

/-- The first edge and any further edges without reset and start, at any pace, do not change where the
command will end. -/
theorem EndsIn.of_first_edges {qs : List PortSample} (h : EndsIn v (s.started p)) (hs : s.Inv = true)
    (hr : p.rst = false) (hqs : ∀ q ∈ qs, q.rst = false ∧ q.start = false)
    (ht : edges (qs.length + 1) { s with inputs := p :: qs } = .next t) : EndsIn v t ∧ t.inputs = [] := by
  obtain ⟨q, -, hstep⟩ := step_eq_runEdge_started (s := { s with inputs := p :: qs }) hs hr
  have hends : EndsIn v (State.started (s.retime qs (s.tick + 1)) p) :=
    State.started_retime (s := s) qs (s.tick + 1) ▸ h.retime qs (s.tick + 1)
  have hstarted : (State.started (s.retime qs (s.tick + 1)) p).inputs = qs := by
    rw [State.started_retime]
    rfl
  rw [edges, hstep] at ht
  split at ht
  next u hu =>
    obtain ⟨hu', hinputs⟩ := hends.of_runEdge hu
    exact hu'.of_edges hqs (hinputs.trans hstarted) ht
  next => cases ht
  next => cases ht

end

end Sys2Proof.Machine
end

/-! # Proofs about the host: issuing commands, and walking a stream from header to header (R195 to R204) -/

section
namespace Sys2Proof.Machine

open Host (Outcome)

/-! ## Issuing a command -/

/-- The block can take a command, under the parameters `P`: it has been reset and is not BUSY. -/
structure State.Ready (P : Config.Params) (s : State) : Prop where
  params : s.params = P
  resetDone : s.resetDone = true
  notBusy : s.status ≠ .busy

section
variable {P : Config.Params} {s : State}

/-- The host that waits gets a block that can take a command. -/
def WaitsReady (P : Config.Params) (s : State) : Prop := Answers (State.Ready P) (awaitDone s)

theorem State.Ready.waits (h : s.Ready P) : WaitsReady P s := ⟨s, awaitDone_ready h.notBusy, h⟩

/-- From a state that meets the invariant, also when the block is BUSY, the wait ends (R187). -/
theorem waitsReady_of_inv (h : s.Inv = true) : WaitsReady s.params s := by
  by_cases hb : s.status = .busy
  · have hinv : (s.retime [] (s.tick + 1)).Inv = true := h
    obtain ⟨t, ht, htinv⟩ := answers_finish (fun _ => micro_of_inv) hinv
    have hrest := (State.inv_iff_resting (fsm_idle_of_finish ht)).1 htinv
    exact ⟨t, (awaitDone_busy (State.resetDone_of_inv h) hb).trans ht, (finish_keepsInputs _ t ht).params,
      hrest.resetDone, hrest.notBusy⟩
  · exact State.Ready.waits ⟨rfl, State.resetDone_of_inv h, hb⟩

@[simp] theorem State.begin_resetDone (s : State) (p : PortSample) : (s.begin p).resetDone = s.resetDone := by
  simp only [State.begin, apply_ite State.resetDone, State.startDecode_resetDone, State.latch_resetDone, ite_self]

/-- Every start but that of NOP latches the window (R13). -/
theorem State.begin_w (s : State) {p : PortSample} (h : p.cmd ≠ 0) : (s.begin p).w = p.win := by
  simp only [State.begin, if_neg h, apply_ite State.w, State.startDecode_w, State.latch_w, ite_self]

/-- The host waits, requests a command, and gets its end, if the instruction that the ports present ends with OK. -/
theorem issue_request {c : BitVec 2} {w : Window} {Q : State → Prop} (h : WaitsReady P s) (hc : c ≠ 0)
    (hexec : ∀ u : State, u.params = P → u.w = w →
      Answers (fun t => t.status = .ok ∧ Q t) (exec (fetch (PortSample.request c w)) u)) :
    Answers (fun t => t.Ready P ∧ t.status = .ok ∧ Q t) (issue (PortSample.request c w) s) := by
  obtain ⟨t, hwait, hP, hd, hb⟩ := h
  have hparams := (State.begin_params (t.retime [] (t.tick + 1)) (PortSample.request c w)).trans hP
  obtain ⟨v, hv, hok, hQ⟩ := hexec _ hparams (State.begin_w _ hc)
  have hkeeps := exec_keepsInputs _ _ v hv
  have hready : v.Ready P :=
    ⟨hkeeps.params.trans hparams, hkeeps.resetDone.trans ((State.begin_resetDone _ _).trans hd), by simp [hok]⟩
  have hstep := step_start (s := { t with inputs := [PortSample.request c w] }) hd rfl rfl hb rfl
  refine ⟨v, ?_, hready, hok, hQ⟩
  rw [issue, hwait, andThen, hstep.trans hv, andThen]
  exact awaitDone_ready hready.notBusy

/-! ## The probe (R188) -/

theorem probeWord_append (b0 b1 : Byte) (rest : BitVec 56) : probeWord (b0 ++ b1 ++ rest) = b0 ++ b1 := by
  rw [probeWord_eq_memRead]
  exact ((memRead_eq_append_iff (n := 16) (m := 56) (by decide)).1 (memRead_all (b0 ++ b1 ++ rest))).1

/-- A window that holds a header begins with the sync word. -/
theorem probeMatches_of_decodeWindow {w : Window} {i : Instr} (h : decodeWindow w = .ok i) : probeMatches w = true := by
  obtain ⟨-, -, hprobe⟩ := Proofs.probeReadsTheSyncBits w
  rw [hprobe, syncOk_iff]
  obtain ⟨hrow, -⟩ | ⟨hrow, -⟩ | ⟨hrow, -⟩ | ⟨hrow, -⟩ := decodeWindow_cases h
  · exact ((rowChb_selects w).1 hrow).1
  · exact ((rowObj_selects w).1 hrow).1
  · exact ((rowMix_selects w).1 hrow).1
  · exact ((rowHoa_selects w).1 hrow).1

/-- A probe of a window that begins with the sync word is a hit. -/
theorem issue_probe {w : Window} (h : WaitsReady P s) (hw : probeMatches w = true) :
    Answers (fun t => t.Ready P ∧ t.status = .ok ∧ t.probeHit = 1) (issue (PortSample.request 1 w) s) := by
  refine issue_request h (by decide) fun u _ hu => answers_next ⟨rfl, ?_⟩
  subst hu
  exact congrArg BitVec.ofBool hw

/-! ## Legal headers and frames -/

/-- The window holds a header that ends OK with FRAME_BYTES `n`, in every state with the parameters `P` (R146). -/
def LegalHeader (P : Config.Params) (w : Window) (n : BitVec 64) : Prop :=
  ∃ i, decodeWindow w = .ok i
    ∧ ∀ u : State, u.params = P → Answers (fun t => t.status = .ok ∧ t.frameBytes = some n) (exec i u)

/-- A header that is legal in one state is legal in every state with the same parameters. -/
theorem legalHeader_of_exec {t : State} {w : Window} {i : Instr} {n : BitVec 64} (hw : decodeWindow w = .ok i)
    (ht : exec i s = .next t) (hok : t.status = .ok) (hn : t.frameBytes = some n) : LegalHeader s.params w n := by
  refine ⟨i, hw, fun u hu => ?_⟩
  obtain ⟨t1, t2, ht1, ht2, hstatus, -, hbytes, -⟩ :=
    exec_header_sameResults (s := s) (s' := u) (isHeader_of_decodeWindow hw) hu.symm
  cases ht.symm.trans ht1
  exact ⟨t2, ht2, hstatus.symm.trans hok, hbytes.symm.trans hn⟩

/-- DECODE of a legal header ends OK with its frame length. -/
theorem issue_decode {w : Window} {n : BitVec 64} (h : WaitsReady P s) (hw : LegalHeader P w n) :
    Answers (fun t => t.Ready P ∧ t.status = .ok ∧ t.frameBytes = some n) (issue (PortSample.request 2 w) s) := by
  obtain ⟨i, hi, hexec⟩ := hw
  refine issue_request h (by decide) fun u hu _ => ?_
  rw [fetch_header rfl hi]
  exact hexec u hu

/-- A frame of a stream with `HDR_IN_LEN = excluded`: a legal header and as many bytes as FRAME_BYTES says
(R200). -/
def LegalFrame (P : Config.Params) (f : Window × List Byte) : Prop :=
  ∃ n, LegalHeader P f.1 n ∧ f.2.length = n.toNat

theorem legalFrame_of_exec {f : Window × List Byte} (h : ∃ i t n, decodeWindow f.1 = .ok i ∧ exec i s = .next t
    ∧ t.status = .ok ∧ t.frameBytes = some n ∧ f.2.length = n.toNat) : LegalFrame s.params f := by
  obtain ⟨i, t, n, hw, ht, hok, hn, hlength⟩ := h
  exact ⟨n, legalHeader_of_exec hw ht hok hn, hlength⟩

/-- The bytes of a frame in the stream. -/
def streamBytes (f : Window × List Byte) : List Byte := windowBytesOf f.1 ++ f.2

end

/-! ## The byte source -/

section
variable {a b : List Byte}

theorem Source.read_append {xs : List Byte} {n : Nat} (hn : xs.length = n) :
    (⟨a ++ (xs ++ b), a.length⟩ : Source).read n = some (xs, ⟨a ++ (xs ++ b), a.length + n⟩) := by
  rw [Source.read_enough (by simp [← hn])]
  simp [← hn]

theorem Source.readHeader_append (w : Window) :
    (⟨a ++ (windowBytesOf w ++ b), a.length⟩ : Source).readHeader
      = some (w, ⟨a ++ (windowBytesOf w ++ b), a.length + 9⟩) := by
  rw [Source.readHeader, Source.read_append (n := Config.headerBytes) (windowBytesOf_length w)]
  simp only [windowOfBytes_windowBytesOf]
  rfl

/-! ## The interactions over a stream of legal frames -/

variable {P : Config.Params} {s : State}

theorem OutPorts.conclude_of_ok {t : State} (h : t.status = .ok) (ok invalid : HostResult) :
    t.outputs.conclude ok invalid = ok :=
  if_pos (congrArg Status.code h)

/-- A probe before a legal header is a hit and leaves the source where it was (R188, R199). -/
theorem probeStream_legal {w : Window} {n : BitVec 64} (rest : BitVec 56) (h : WaitsReady P s)
    (hw : LegalHeader P w n) :
    ∃ t, t.Ready P ∧ probeStream rest ⟨⟨windowBytesOf w ++ b, 0⟩, s⟩
      = (.probed true, ⟨⟨windowBytesOf w ++ b, 0⟩, t⟩) := by
  obtain ⟨i, hi, -⟩ := hw
  have hmatch : probeMatches (windowByte w 0 ++ windowByte w 1 ++ rest) = true := by
    rw [probeMatches, probeWord_append]
    exact probeMatches_of_decodeWindow hi
  obtain ⟨t, ht, hready, hok, hhit⟩ := issue_probe h hmatch
  have hread : (⟨windowBytesOf w ++ b, 0⟩ : Source).read 2
      = some ([windowByte w 0, windowByte w 1], ⟨windowBytesOf w ++ b, 2⟩) :=
    Source.read_append (a := []) (xs := [windowByte w 0, windowByte w 1]) (b := (windowBytesOf w).drop 2 ++ b) rfl
  have hport : t.outputs.probeHit = 1 := ((Proofs.portsShowTheRegisters t).2 hready.notBusy).1.trans hhit
  refine ⟨t, hready, ?_⟩
  simp only [probeStream, hread, ht, OutPorts.conclude_of_ok hok, hport]
  rfl

/-- Stream open at a legal header exposes the parameters and leaves the source where it was (R196, R199). -/
theorem openStream_legal {w : Window} {n : BitVec 64} (h : WaitsReady P s) (hw : LegalHeader P w n) :
    ∃ params side t, t.Ready P ∧ openStream ⟨⟨windowBytesOf w ++ b, 0⟩, s⟩
      = (.opened params side, ⟨⟨windowBytesOf w ++ b, 0⟩, t⟩) := by
  obtain ⟨t, ht, hready, hok, -⟩ := issue_decode h hw
  have hread : (⟨windowBytesOf w ++ b, 0⟩ : Source).readHeader = some (w, ⟨windowBytesOf w ++ b, 0 + 9⟩) :=
    Source.readHeader_append (a := []) w
  refine ⟨t.outputs.streamParams, t.outputs.sideRecord, t, hready, ?_⟩
  simp only [openStream, hread, ht, OutPorts.conclude_of_ok hok]
  rfl

/-- A frame read at a legal frame gives its bytes and leaves the source behind it (R198, R200). -/
theorem readFrame_legal {f : Window × List Byte} (h : WaitsReady P s) (hf : LegalFrame P f) :
    ∃ next t, t.Ready P ∧ readFrame .excluded ⟨⟨a ++ (streamBytes f ++ b), a.length⟩, s⟩
      = (.frame (streamBytes f) next, ⟨⟨a ++ (streamBytes f ++ b), (a ++ streamBytes f).length⟩, t⟩) := by
  obtain ⟨n, hw, hn⟩ := hf
  obtain ⟨t, ht, hready, hok, hbytes⟩ := issue_decode h hw
  have hport : t.outputs.frameBytes = n := State.shown_some hready.notBusy _ hbytes
  have hheader : (⟨a ++ (streamBytes f ++ b), a.length⟩ : Source).readHeader
      = some (f.1, ⟨a ++ (streamBytes f ++ b), a.length + 9⟩) := by
    rw [streamBytes, List.append_assoc]
    exact Source.readHeader_append f.1
  have hpayload : (⟨a ++ (streamBytes f ++ b), a.length + 9⟩ : Source).read n.toNat
      = some (f.2, ⟨a ++ (streamBytes f ++ b), (a ++ streamBytes f).length⟩) := by
    have hread := Source.read_append (a := a ++ windowBytesOf f.1) (b := b) hn
    simp only [List.append_assoc, List.length_append, windowBytesOf_length] at hread
    simp only [streamBytes, List.append_assoc, List.length_append, windowBytesOf_length, hn, ← Nat.add_assoc]
    exact hread
  refine ⟨(a ++ streamBytes f).length, t, hready, ?_⟩
  simp only [readFrame, hheader, ht, hport, Source.readRest, hpayload]
  exact if_pos (congrArg Status.code hok)

/-- The host walks a stream of legal frames from header to header to its clean end (R198, R201, R203). -/
theorem walk_legal {frames : List (Window × List Byte)} (h : WaitsReady P s) (hf : ∀ f ∈ frames, LegalFrame P f) :
    ∃ t, walk .excluded (frames.length + 1) ⟨⟨a ++ frames.flatMap streamBytes, a.length⟩, s⟩
      = (frames.map streamBytes, .endOfStream,
          ⟨⟨a ++ frames.flatMap streamBytes, (a ++ frames.flatMap streamBytes).length⟩, t⟩) := by
  induction frames generalizing a s with
  | nil =>
    have hend : (⟨a ++ [].flatMap streamBytes, a.length⟩ : Source).readHeader = none :=
      Source.readHeader_short (by simp)
    refine ⟨s, ?_⟩
    simp only [walk, readFrame, hend]
    simp
  | cons f fs ih =>
    obtain ⟨next, t, hready, hread⟩ := readFrame_legal (a := a) (b := fs.flatMap streamBytes) h (hf f (by simp))
    obtain ⟨v, hv⟩ := ih (a := a ++ streamBytes f) hready.waits fun g hg => hf g (by simp [hg])
    rw [List.append_assoc] at hv
    refine ⟨v, ?_⟩
    rw [List.flatMap_cons, List.length_cons, walk, hread]
    simp only [hv, List.map_cons]

/-- The host that probes, opens and walks a stream of legal frames reads every one of them (R195 to R201). -/
theorem playStream_legal {f : Window × List Byte} {fs : List (Window × List Byte)} (rest : BitVec 56)
    {accept : Bool → Bool} (haccept : accept true = true) (h : WaitsReady P s) (hf : ∀ g ∈ f :: fs, LegalFrame P g) :
    ∃ t, playStream rest accept ((f :: fs).length + 1) ⟨⟨(f :: fs).flatMap streamBytes, 0⟩, s⟩
      = ((f :: fs).map streamBytes, .endOfStream,
          ⟨⟨(f :: fs).flatMap streamBytes, ((f :: fs).flatMap streamBytes).length⟩, t⟩) := by
  obtain ⟨n, hw, -⟩ := hf f (by simp)
  have hbytes : (f :: fs).flatMap streamBytes = windowBytesOf f.1 ++ (f.2 ++ fs.flatMap streamBytes) := by
    rw [List.flatMap_cons, streamBytes, List.append_assoc]
  obtain ⟨t1, hready1, hprobe⟩ := probeStream_legal (b := f.2 ++ fs.flatMap streamBytes) rest h hw
  obtain ⟨_, _, t2, hready2, hopen⟩ := openStream_legal (b := f.2 ++ fs.flatMap streamBytes) hready1.waits hw
  rw [← hbytes] at hprobe hopen
  obtain ⟨t, ht⟩ := walk_legal (a := []) hready2.waits hf
  refine ⟨t, ?_⟩
  rw [playStream, hprobe]
  simp only [haccept, if_true, hopen]
  exact ht

end

/-! ## The seek-back (R199) -/

theorem probeStream_source (rest : BitVec 56) (d : Driver) : (probeStream rest d).2.source = d.source := by
  unfold probeStream
  split
  next b0 b1 src hread =>
    split
    · exact Source.seekBack_of_read hread
    · rfl
    · rfl
  next => rfl

theorem openStream_source (d : Driver) : (openStream d).2.source = d.source := by
  unfold openStream
  split
  next => rfl
  next w src hread =>
    split
    · exact Source.seekBack_of_readHeader hread
    · rfl
    · rfl

/-- A frame read that gives a frame gives the extent of R200 and leaves the source at the next header. -/
theorem readFrame_extent {m : HdrInLen} {d d' : Driver} {bytes : List Byte} {next : Nat}
    (h : readFrame m d = (.frame bytes next, d')) :
    bytes.length = frameExtent m d'.block.outputs.frameBytes.toNat
      ∧ next = nextHeader m d.source.pos d'.block.outputs.frameBytes.toNat ∧ d'.source.pos = next := by
  obtain ⟨w, src, t, hheader, -, -, hrest, rfl, rfl⟩ := readFrame_frame h
  obtain ⟨bs, hread, -⟩ := Source.readHeader_some hheader
  obtain ⟨-, -, rfl⟩ := Source.read_some hread
  obtain ⟨hlength, hpos⟩ := Source.readRest_some rfl hrest
  exact ⟨hlength, hpos, rfl⟩

end Sys2Proof.Machine
end

/-! # The obligations of the family of the commands and the host -/

section
namespace Sys2Proof.Proofs

open Machine

/-- Settles O31: the sync word is the first byte and half of the second (`probeMatches_iff`). -/
theorem probeResult : Obligations.ProbeResult := by
  intro s
  rw [← ofBool_eq_ite (probeMatches_iff s.w)]
  rfl

/-- Settles O32: in its domain the frame length is the exact formula (`frameLenIsExact`) and fits its register. -/
theorem framelenResult : Obligations.FramelenResult := by
  intro s
  split_ifs with hout
  · refine execFramelen_of_undefined (Bool.eq_false_iff.2 fun hdef => ?_)
    obtain ⟨hfs, hb⟩ := frameLenDefined_iff.1 hdef
    exact hout.elim hfs (Nat.not_le.2 hb)
  · rw [not_or, Nat.not_le] at hout
    obtain ⟨hfs, hb⟩ := hout
    refine ⟨_, execFramelen_of_defined (frameLenDefined_iff.2 ⟨hfs, hb⟩), ?_⟩
    rw [frameLenBits_toNat hfs hb]
    exact frameLenIsExact _ _ (pos_of_ne_zero hfs).ne'

/-- Settles O33. -/
theorem nopChangesNothing : Obligations.NopChangesNothing :=
  fun _ => ⟨rfl, fun hd hr hs hc hb => step_start_nop hd hr hs hb hc⟩

/-- Settles O41: the placed bits are a request of the instruction, whose window or code decodes to it. -/
theorem placedWordRuns : Obligations.PlacedWordRuns := by
  refine ⟨fun s i w hi _ => ?_, fun s c => ⟨decodeTableWord_command c, ?_⟩⟩
  · have hw := decodeWindow_eq_ok_iff.2 hi
    have hsample : tableSample 72 w.toNat = PortSample.request 2 w := by simp [tableSample]
    refine ⟨by rw [decodeTableWord_header, hw]; rfl, ?_⟩
    rw [State.withFetchWord, hsample, step_present rfl rfl rfl, fetch_header rfl hw]
  · have hsample : tableSample 8 c.toNat = PortSample.request c 0 := by simp [tableSample]
    rw [State.withFetchWord, hsample, step_present rfl rfl rfl, fetch_request_zero]

/-- Settles O46: the grammar has more states than any run passes through. -/
theorem runsNeverRunOut : Obligations.RunsNeverRunOut := fun s => finishWithin_progresses s.fuelled_fsmStates

/-- Settles O47, instruction by instruction. -/
theorem everyCommandCompletes : Obligations.EveryCommandCompletes := fun _ s hi => exec_completes s hi

/-- Settles O48: the fuel that one FSM state uses up does not matter. -/
theorem oneStateThenTheRest : Obligations.OneStateThenTheRest := fun _ _ => finish_micro

/-- Settles O49, command by command; for DECODE by the closed form of the window's header. -/
theorem atomicEqualsStateByState : Obligations.AtomicEqualsStateByState :=
  fun _ _ hc => exec_fetch_begin fun h0 => absurd h0 hc

/-- Settles O50: every schedule reaches the end of the command that the first edge starts or finds in progress. -/
theorem edgeCountDoesNotMatter : Obligations.EdgeCountDoesNotMatter := by
  intro s t p qs hs hr hqs ht hb
  obtain ⟨v, hv⟩ := exists_endsIn (State.started_inv (p := p) hs)
  obtain ⟨hends, hinputs⟩ := hv.of_first_edges hs hr hqs ht
  have heq := hends.eq_of_idle (fsm_idle_of_inv hends.inv hb)
  rw [hinputs] at heq
  rw [hv.step_command hs hr, heq]
  rfl

/-- Settles O58: the read of the header finds too few bytes. -/
theorem shortStreamIsTruncation : Obligations.ShortStreamIsTruncation := by
  intro d h
  rw [openStream, Source.readHeader_short h]

/-- Settles O59: each read of a frame leaves the source at the next header and the block ready (`readFrame_legal`). -/
theorem walkHasZeroDrift : Obligations.WalkHasZeroDrift := by
  intro s frames hd hb hframes
  have hready : s.Ready s.params := ⟨rfl, hd, hb⟩
  exact walk_legal (a := []) hready.waits fun f hf => legalFrame_of_exec (hframes f hf)

/-- Settles O60: the seek-back by what was read, the extent of a frame, and the session over legal frames. -/
theorem sessionSeeksBackBeforeTheFirstFrame : Obligations.SessionSeeksBackBeforeTheFirstFrame := by
  refine ⟨fun rest d => ⟨probeStream_source rest d, openStream_source d⟩, fun _ _ _ _ _ => readFrame_extent, ?_⟩
  intro s rest accept frames hs haccept hne hframes
  have hlegal : ∀ f ∈ frames, LegalFrame s.params f := fun f hf => legalFrame_of_exec (hframes f hf)
  have hwait := waitsReady_of_inv hs
  obtain ⟨f, fs, rfl⟩ := List.exists_cons_of_ne_nil hne
  obtain ⟨n, hw, -⟩ := hlegal f (by simp)
  intro bytes
  have hbytes : bytes = windowBytesOf f.1 ++ (f.2 ++ fs.flatMap streamBytes) := List.append_assoc _ _ _
  refine ⟨?_, ?_, playStream_legal rest haccept hwait hlegal⟩
  · rw [hbytes]
    exact (probeStream_legal rest hwait hw).imp fun _ ht => ht.2
  · rw [hbytes]
    obtain ⟨params, side, t, -, hopen⟩ := openStream_legal hwait hw
    exact ⟨params, side, t, hopen⟩

end Sys2Proof.Proofs
end

/-! # Proofs about the failures (R210 to R216) -/

section
namespace Sys2Proof.Machine

/-- DECODE ends in one of the ways of a header, over a window that holds none too. -/
theorem execDecode_headerEnd (s : State) : Ensures (HeaderEnd s) (execDecode s) := by
  cases hw : decodeWindow s.w with
  | ok i =>
    rw [execDecode_of_decodeWindow hw]
    exact exec_headerEnd s (isHeader_of_decodeWindow hw)
  | error e =>
    rw [execDecode_of_noHeader hw]
    exact ensures_ite (fun _ => ensures_failAt (by decide)) fun _ =>
      ensures_ite (fun _ => ensures_failAt (by decide)) fun _ =>
      ensures_ite (fun _ => ensures_failAt (by decide)) fun _ =>
      ensures_prefixThen fun _ =>
      ensures_ite (fun _ => ensures_failAt (by decide)) fun _ => ensures_failAt (by decide)

/-- A header that ends INVALID has failed at a check; the record was empty from its start (R212). -/
theorem HeaderEnd.of_invalid {s t : State} (h : HeaderEnd s t) (hinvalid : t.status = .invalid) :
    t.fsm = .idle ∧ t.frameBytes = none ∧ t.probeHit = s.probeHit ∧ t.record = Record.empty := by
  cases h with
  | failed => simp
  | succeeded => simp at hinvalid

/-- A FRAMELEN that ends INVALID was outside its domain; it leaves the record as it was (R190, R212). -/
theorem execFramelen_of_invalid (s : State) :
    Ensures (fun t => t.status = .invalid →
      t.fsm = .idle ∧ t.frameBytes = none ∧ t.probeHit = s.probeHit ∧ t.record = s.record) (execFramelen s) :=
  ensures_ite (fun _ => ensures_next.2 (by simp)) fun _ => ensures_next.2 (by simp)

end Sys2Proof.Machine
end

/-! # The obligations of the family of the failures -/

section
namespace Sys2Proof.Proofs

open Machine

/-- Settles O34: headers and DECODE fail as `HeaderEnd` says, FRAMELEN outside its domain, and PROBE never. -/
theorem failureEffect : Obligations.FailureEffect := by
  intro i s t hi ht hinvalid
  cases i with
  | chb | obj | mix | hoa => exact (exec_headerEnd s rfl t ht).of_invalid hinvalid
  | nop => exact absurd rfl hi
  | probe =>
    cases ht
    cases hinvalid
  | decode => exact (execDecode_headerEnd s t ht).of_invalid hinvalid
  | framelen => exact execFramelen_of_invalid s t ht hinvalid

end Sys2Proof.Proofs
end

/-! # The obligations of the family of the reset and the hazards -/

section
namespace Sys2Proof.Proofs

open Machine

/-- Settles O44: the edge is `step_reset` or `step_before_reset`; the invariant after a reset is `applyReset_inv`. -/
theorem resetEdge : Obligations.ResetEdge := by
  refine ⟨fun s hr => ?_, fun s hd hr => ?_, fun P => ⟨rfl, rfl⟩⟩
  · have hinv := s.advance.applyReset_inv
    exact ⟨_, step_reset hr, rfl, rfl, rfl, rfl, rfl, rfl, rfl, rfl, rfl, rfl, hinv⟩
  · rw [step_before_reset hd hr]
    split
    case isTrue => rfl
    case isFalse => exact ⟨_, rfl, rfl, rfl⟩

end Sys2Proof.Proofs
end
